-- ==== Sys2Proof/Word.lean ====
section
/-! DEFINITION. The word types of the debug-access block (10_state.md R21, R26). -/

namespace Sys2Proof

/-- A byte: a Microchip command (10 R29), a byte of a frame (44 R350). -/
abbrev Byte := BitVec 8

/-- A 32-bit data register (10 R26). -/
abbrev Word := BitVec 32

/-- A 5-bit instruction code (00 R6 `IR_LEN`). -/
abbrev IrCode := BitVec 5

/-- A halfword: the CRC register (10 R40), a loader halfword (00 R6 `LOADER`). -/
abbrev Half := BitVec 16

/-- What one scan carries or returns: at most 64 bits (00 R6 `MAX_SCAN`). -/
abbrev ScanWord := BitVec 64

end Sys2Proof
end

