-- ==== Sys2Proof/Config.lean ====
section
/-! DEFINITION. The parameters of 00_scope.md R6, and the free values: opaque constants of which nothing can be proved. -/

namespace Sys2Proof

/-- The target families (00 R6 `FAMILY`; MX1 covers MX1/2, MX3 covers MX3 to MX7). -/
inductive Family where
  | mx1 | mx3 | mz | mm | mk
  deriving DecidableEq, Repr

/-- The instruction and command codes, all parameters (30 R110, R111; 92 D2, D3). -/
structure Codes where
  mtapIdcode : IrCode
  swMtap : IrCode
  swEtap : IrCode
  mtapCommand : IrCode
  bypass : IrCode
  etapIdcode : IrCode
  etapImpcode : IrCode
  etapAddress : IrCode
  etapData : IrCode
  etapControl : IrCode
  etapAll : IrCode
  etapEjtagboot : IrCode
  etapNormalboot : IrCode
  etapFastdata : IrCode
  mchpStatus : Byte
  mchpAssertRst : Byte
  mchpDeassertRst : Byte
  mchpErase : Byte
  mchpFlashEnable : Byte
  mchpFlashDisable : Byte
  deriving DecidableEq, Repr

/-- The bit positions of the EJTAG Control register that are parameters (30 R113); `psz` is the lower bit of the two-bit field. -/
structure EcrLayout where
  rocc : Nat
  psz : Nat
  vped : Nat
  doze : Nat
  halt : Nat
  perRst : Nat
  prnw : Nat
  prRst : Nat
  probEn : Nat
  probTrap : Nat
  ejtagBrk : Nat
  dm : Nat
  deriving DecidableEq, Repr

/-- PrAcc stands at bit 18 under every layout: the one position the source fixes (10 R32, 30 R113). -/
def EcrLayout.prAcc (_ : EcrLayout) : Nat := 18

/-- The probe's access to a Control field (10 R32): read-only, read/write, cleared by writing 0, set by writing 1. -/
inductive AccessRight where
  | r | rw | w0 | w1
  deriving DecidableEq, Repr

/-- The access rights of the Control fields that a write can reach (10 R32). The other fields need none: no write could
show in them (DEDUCED, log 41). -/
structure EcrAccess where
  rocc : AccessRight
  perRst : AccessRight
  prAcc : AccessRight
  prRst : AccessRight
  probEn : AccessRight
  probTrap : AccessRight
  ejtagBrk : AccessRight
  deriving DecidableEq, Repr

/-- The bit positions of the status byte (10 R31, 30 R112). -/
structure StatusLayout where
  cps : Nat
  nvmErr : Nat
  cfgRdy : Nat
  fcBusy : Nat
  faen : Nat
  devRst : Nat
  deriving DecidableEq, Repr

/-- The three registers of the `ETAP_ALL` chain (42 R229). -/
inductive AllPart where
  | address | data | control
  deriving DecidableEq, Repr

/-- The Programming Executive's opcode values (30 R118). -/
structure PeCodes where
  rowProgram : Half
  read : Half
  wordProgram : Half
  execVersion : Half
  getCrc : Half
  quadWordProgram : Half
  doubleWordProgram : Half
  deriving DecidableEq, Repr

/-- What a CRC mismatch does (00 R6 `VERIFY_POLICY`, 92 D21). -/
inductive VerifyPolicy where
  | strict | warn
  deriving DecidableEq, Repr, Inhabited

/-- The post-deassert status test (00 R6 `STATUS_CHECK`, 43 R301). -/
inductive StatusCheck where
  | revised | oldway
  deriving DecidableEq, Repr

/-- A test of the status byte under a mask (00 R6 `STATUS_OK_MASK`, `STATUS_OK_VALUE`). -/
structure StatusTest where
  mask : Byte
  value : Byte
  deriving DecidableEq, Repr

/-- The widest program operation a family must use (00 R6 `WIDE_PROGRAM`, 43 R323). -/
inductive WideProgram where
  | single | double | quad
  deriving DecidableEq, Repr

/-- A row of the host's device table (10 R44): the key is IDCODE[27:0] (43 R286). -/
structure DeviceEntry where
  key : BitVec 28
  name : String
  flashKb : Nat
  family : Family
  deriving DecidableEq, Repr

/-- The parameters of the model (00 R6, 10 R44). No step writes them. A length that the source gives (`IR_LEN`, `DATA_LEN`,
`FASTDATA_LEN`, `IDCODE_LEN`, `MAX_SCAN`) or that 92 D3 settles (`MCHP_LEN`) stands in a type instead. -/
structure Config where
  family : Family
  deviceIdcode : Word
  notProtected : Bool
  admitGkForms : Bool
  codes : Codes
  /-- the length of the Control register, `ECR_LEN` -/
  ecrLen : Nat
  /-- the length of the Address register, `ADDR_LEN` -/
  addrLen : Nat
  ecrLayout : EcrLayout
  ecrAccess : EcrAccess
  statusLayout : StatusLayout
  etapIdcode : Word
  impcode : Word
  /-- the parts of the `ETAP_ALL` chain, the one at bits [31:0] first -/
  allOrder : List AllPart
  dmsegLo : Word
  dmsegHi : Word
  fastdataLo : Word
  fastdataHi : Word
  dmsegVector : Word
  /-- the debug exception vector while ProbTrap = 0 (20 R81) -/
  targetVector : Word
  resetVector : Word
  pollMax : Nat
  pollSlowAfter : Nat
  erasePollMax : Nat
  statusCheck : StatusCheck
  /-- `STATUS_OK_MASK`, `STATUS_OK_VALUE` under `revised` and under `oldway` (43 R301) -/
  statusRevised : StatusTest
  statusOldway : StatusTest
  verifyPolicy : VerifyPolicy
  crcSeed : Half
  frameSeed : Half
  peCodes : PeCodes
  wideProgram : List (Family × WideProgram)
  rowWords : Nat
  loader : List Half
  loaderAddr : Word
  peLoadAddr : Word
  pe : List Word
  peVersion : Word
  bmxSetup : List Word
  deviceTable : List DeviceEntry
  deriving DecidableEq, Repr

/-- The free values (00 R9 `draw T`): draw number `k`, of width `w`. The step takes the number from
the draw counter of the state, so that each draw is a fresh value (DESIGN CHOICE, log 2). -/
opaque Config.free (w k : Nat) : BitVec w

/-- `ETAP_IDCODE_VALUE` of the reset configuration: OPEN (00 R6, 10 R37). -/
opaque Config.openEtapIdcode : Word

/-- `IMPCODE_VALUE` of the reset configuration: OPEN (00 R6, 10 R37). -/
opaque Config.openImpcode : Word

/-- `ERASE_POLL_MAX` of the reset configuration: OPEN, finite (00 R6, 92 D49). -/
opaque Config.openErasePollMax : Nat

/-- `VERIFY_POLICY` of the reset configuration: no default (92 D21). -/
opaque Config.openVerifyPolicy : VerifyPolicy

/-- `ROW_WORDS` of the reset configuration: a family constant (00 R6). -/
opaque Config.openRowWords : Nat

/-- `LOADER` of the reset configuration: a family constant the spec does not give (00 R6). -/
opaque Config.openLoader : List Half

/-- `PE` of the reset configuration: a family constant the spec does not give (00 R6). -/
opaque Config.openPe : List Word

/-- `PE_LOAD_ADDR` of the reset configuration: a family constant (00 R6). -/
opaque Config.openPeLoadAddr : Word

/-- `PE_VERSION` of the reset configuration: a family constant (00 R6). -/
opaque Config.openPeVersion : Word

/-- `BMX_SETUP` of the reset configuration: OPEN (00 R6). -/
opaque Config.openBmxSetup : List Word

end Sys2Proof
end

