-- ==== Sys2Proof/Syntax.lean ====
section
/-! DEFINITION. The syntax: TAP instructions and Microchip commands (opcode_table.json, 30_encoding.md R110, R111), TCK
cycles and scans (30 R100, R101), and the host operations, which are the block's programs (30 R130, 43_host_sequences.md). -/

namespace Sys2Proof

/-- The two instruction sets (10 R24). -/
inductive Tap where
  | mtap | etap
  deriving DecidableEq, Repr

/-- The 16 states of the TAP controller, with the names of 10 R22. -/
inductive TapState where
  | tlr | rti | sds | cdr | sdr | e1d | pdr | e2d | udr | sis | cir | sir | e1i | pir | e2i | uir
  deriving DecidableEq, Repr

/-- The instructions of opcode_table.json. `SW_MTAP`, `SW_ETAP` and `BYPASS` stand in both TAPs'
columns of 30 R110 with one code and one meaning each: the two rows are one instruction. -/
inductive Instr where
  | mtapIdcode        -- 41 R182
  | swMtap            -- 41 R180
  | swEtap            -- 41 R181
  | mtapCommand       -- 41 R183
  | bypass            -- 41 R184
  | etapIdcode        -- 42 R225
  | etapImpcode       -- 42 R226
  | etapAddress       -- 42 R227
  | etapData          -- 42 R222
  | etapControl       -- 42 R221
  | etapAll           -- 42 R229
  | etapEjtagboot     -- 42 R224
  | etapNormalboot    -- 42 R228
  | etapFastdata      -- 42 R223
  | mchpStatus        -- 41 R190
  | mchpAssertRst     -- 41 R191
  | mchpDeassertRst   -- 41 R192
  | mchpErase         -- 41 R193
  | mchpFlashEnable   -- 41 R194
  | mchpFlashDisable  -- 41 R195
  deriving DecidableEq, Repr

/-- The word of an instruction: a 5-bit code shifted into the instruction register, or an 8-bit code
shifted into the Microchip command register (30, head; 30 R131). -/
inductive Code where
  | ir (v : IrCode)
  | mchp (v : Byte)
  deriving DecidableEq, Repr

/-- One TCK cycle (30 R100). -/
structure Cycle where
  tms : Bool
  tdi : Bool
  rd : Bool
  deriving DecidableEq, Repr

/-- A scan read back from a TCK stream (30 R124): which register it shifted, and the bits, first first. -/
structure Recorded where
  isIr : Bool
  bits : List Bool
  deriving DecidableEq, Repr

/-- The scans the host issues from Run-Test/Idle (30 R102, R103). -/
inductive Scan where
  | ir (c : IrCode)
  | dr (bits : List Bool) (rd : Bool)
  deriving DecidableEq, Repr

/-- The Microchip commands as operands of a host operation and of a fault (43 R285, 60 R370). -/
inductive MchpOp where
  | status | assertRst | deassertRst | erase | flashEnable | flashDisable
  deriving DecidableEq, Repr

/-- The operations of the Programming Executive (30 R118). -/
inductive PeOp where
  | rowProgram | read | wordProgram | execVersion | getCrc | quadWordProgram | doubleWordProgram
  deriving DecidableEq, Repr

/-- The host operations (30 R130 and the rules of 43 and 44 it names). -/
inductive HostOp where
  /-- `Scan(leadN, leadTms, n, v, rd)` (40 R160); `lead` holds the lead-in bits, first first -/
  | scan (lead : List Bool) (n : Nat) (v : ScanWord) (rd : Bool)
  | tapReset                                                       -- 43 R280
  | ir (c : IrCode)                                                -- 43 R281
  | dr (n : Nat) (v : ScanWord) (rd : Bool)                        -- 43 R282
  | selectTap (t : Tap)                                            -- 43 R284
  | mchpCommand (op : MchpOp)                                      -- 43 R285
  | readIdcode                                                     -- 43 R286
  | xferInstruction (w : Word)                                     -- 43 R287
  | getPeResponse                                                  -- 43 R288
  | fastdataSelect                                                 -- 43 R289
  | fastdataWrite (w : Word)                                       -- 43 R290
  | fastdataRead                                                   -- 43 R291
  | serialExecution                                                -- 43 R300
  | eraseChip                                                      -- 43 R302
  | sessionOpen                                                    -- 43 R304
  | sessionClose                                                   -- 43 R304
  | loadExecutive                                                  -- 43 R310
  | peCommand (op : PeOp) (operand : Half) (words : List Word) (nresp : Nat)  -- 43 R320
  | peRead (addr : Word) (n : Nat)                                 -- 43 R321
  | peWordProgram (addr w : Word)                                  -- 43 R322
  | peDoubleWordProgram (addr w0 w1 : Word)                        -- 43 R323
  | peQuadWordProgram (addr w0 w1 w2 w3 : Word)                    -- 43 R324
  | peRowProgram (addr : Word) (row : List Word)                   -- 43 R325
  | peGetCrc (addr : Word) (image : List Byte)                     -- 43 R326
  | peVersionCheck                                                 -- 43 R327
  | programBlock (addr : Word) (words : List Word)                 -- 43 R328
  | verifyBlock (addr : Word) (words : List Word)                  -- 43 R329
  | readBlock (addr : Word) (n : Nat)                              -- 43 R329
  | crcInit (seed : Half)                                          -- 44 R340
  | crcByte (b : Byte)                                             -- 44 R340
  | crcResult                                                      -- 44 R340
  | crc16 (seed : Half) (bytes : List Byte)                        -- 44 R343
  | encodeFrame (cmd : Byte) (data : List Byte)                    -- 44 R350
  | receiveFrame (bytes : List Byte) (needed : Bool)               -- 44 R351
  deriving DecidableEq, Repr

/-- What the host still has to do (10 R41 `seqPos`): operations, the cycles they expand into, and the
tests and assignments that stand between the scans of a sequence in 43. -/
inductive HostTask where
  | op (o : HostOp)
  | cycle (c : Cycle)                  -- one TCK cycle (40 R150)
  | endScan                            -- `return out` of a reading scan (40 R160)
  | forget                             -- `hostSel <- unknown ; hostIr <- unknown` (43 R280)
  | noteIr (c : IrCode)                -- `hostIr <- c` (43 R281)
  | noteSel (t : Tap)                  -- `hostSel <- t` (43 R284)
  | keepWord                           -- the word read_idcode returns (43 R286)
  | lookupDevice                       -- the device table (43 R286, R304)
  | poll (i : Nat)                     -- the head of the PrAcc loop (43 R287)
  | pollCheck (i : Nat)                -- its exit test (43 R287)
  | keepResponse                       -- the word get_pe_response returns (43 R288)
  | keepFastdata                       -- `(r >> 1, r[0])` (43 R291)
  | checkCps                           -- step 1 of the bootstrap (43 R300)
  | checkStatusOk                      -- step 4 of the bootstrap (43 R301)
  | setSerial                          -- `serial_execution_mode <- true` (43 R300)
  | erasePoll (i : Nat)                -- the head of the erase loop (43 R302)
  | eraseCheck (i : Nat)               -- its exit test (43 R302)
  | clearResponses                     -- the start of a transaction's answers (43 R320)
  | checkEcho (op : PeOp)              -- `resp[0][31:16]` (43 R320)
  | checkPeStatus                      -- `resp[0][15:0]` (43 R321 to R326)
  | keepData                           -- `data[j] = resp[1 + j]` (43 R321)
  | checkVersion                       -- 43 R327
  | compareCrc                         -- 43 R326
  | closeFrame (cmd : Byte) (data : List Byte)  -- the bytes `encode_frame` returns (44 R350)
  | checkFrame (cmd : Byte) (data : List Byte) (c : Half) (needed : Bool)  -- the CRC test (44 R351)
  | setExecutive                       -- `use_executive <- true` (43 R310)
  deriving DecidableEq, Repr

/-- The processor's access kinds (10 R38). -/
inductive AccessKind where
  | fetch | load | store
  deriving DecidableEq, Repr

/-- The processor's access sizes: 1, 2 or 4 bytes (10 R38). -/
inductive AccessSize where
  | byte | half | word
  deriving DecidableEq, Repr

/-- A processor access (10 R38); `data` has a meaning for a store only. -/
structure Access where
  kind : AccessKind
  addr : Word
  size : AccessSize
  data : Word
  deriving DecidableEq, Repr

/-- What the CPU agent may choose to do in one turn (42 R251, R259; 60 R383). -/
inductive CpuMove where
  | stay
  | post (a : Access)
  | leaveDebug
  | takeDebug
  deriving DecidableEq, Repr

/-- What the flash agent may do in one turn (41 R204, R205). -/
inductive FlashMove where
  | configure
  | finishErase
  deriving DecidableEq, Repr

/-- One turn of one agent, or an event from outside the machine (00 R5; 43 R283; 70 R400). -/
inductive Turn where
  | host
  | cpu (m : CpuMove)
  | flash (m : FlashMove)
  /-- the host's next move meets an invalid bit-bang read character (43 R283, 60 R373) -/
  | hostGarbled
  /-- the transport fails (43 R283, 60 R372 `E_TRANSPORT`) -/
  | transportFail
  /-- a power-on reset (70 R400a) -/
  | powerOn
  deriving DecidableEq, Repr

end Sys2Proof
end

