-- ==== Sys2Proof/WellFormed.lean ====
section
/-! DEFINITION. The checks on instructions, on code tables and on the other parameters (30_encoding.md R110, R113; 00 R6, R11). -/

namespace Sys2Proof

/-- Whether the TAP's column of 30 R110 lists the instruction; the Microchip commands exist only under MTAP (41 R198). -/
def Instr.decodedBy : Instr → Tap → Bool
  | .mtapIdcode, t | .mtapCommand, t => t == .mtap
  | .swMtap, _ | .swEtap, _ | .bypass, _ => true
  | .etapIdcode, t | .etapImpcode, t | .etapAddress, t | .etapData, t | .etapControl, t | .etapAll, t
  | .etapEjtagboot, t | .etapNormalboot, t | .etapFastdata, t => t == .etap
  | .mchpStatus, t | .mchpAssertRst, t | .mchpDeassertRst, t | .mchpErase, t | .mchpFlashEnable, t
  | .mchpFlashDisable, t => t == .mtap

/-- The instructions known only from general knowledge (00 R11). -/
def Instr.gkOnly : Instr → Bool
  | .bypass | .etapIdcode | .etapImpcode | .etapAddress | .etapAll | .etapNormalboot => true
  | .mtapIdcode | .swMtap | .swEtap | .mtapCommand | .etapData | .etapControl | .etapEjtagboot | .etapFastdata
  | .mchpStatus | .mchpAssertRst | .mchpDeassertRst | .mchpErase | .mchpFlashEnable | .mchpFlashDisable => false

/-- Whether the configuration admits the instruction (00 R11). -/
def Instr.admitted (cfg : Config) (i : Instr) : Bool := !i.gkOnly || cfg.admitGkForms

/-- An instruction a TAP decodes and the configuration admits. -/
def WellFormed (cfg : Config) (t : Tap) (i : Instr) : Bool := i.decodedBy t && i.admitted cfg

/-- The codes of the MTAP column (30 R110). -/
def Codes.mtapColumn (c : Codes) : List IrCode :=
  [c.swMtap, c.swEtap, c.bypass, c.mtapIdcode, c.mtapCommand]

/-- The codes of the ETAP column (30 R110). -/
def Codes.etapColumn (c : Codes) : List IrCode :=
  [c.swMtap, c.swEtap, c.bypass, c.etapIdcode, c.etapImpcode, c.etapAddress, c.etapData, c.etapControl, c.etapAll,
    c.etapEjtagboot, c.etapNormalboot, c.etapFastdata]

/-- The command codes (30 R111). -/
def Codes.commands (c : Codes) : List Byte :=
  [c.mchpStatus, c.mchpAssertRst, c.mchpDeassertRst, c.mchpErase, c.mchpFlashEnable, c.mchpFlashDisable]

/-- 30 R110: "the codes within one TAP are distinct"; the switch codes have one value in both TAPs because each has one field. -/
def Codes.legal (c : Codes) : Bool :=
  decide c.mtapColumn.Nodup && decide c.etapColumn.Nodup && decide c.commands.Nodup

/-- The bit positions a Control layout uses (30 R113). -/
def EcrLayout.positions (l : EcrLayout) : List Nat :=
  [l.prAcc, l.rocc, l.psz, l.psz + 1, l.vped, l.doze, l.halt, l.perRst, l.prnw, l.prRst, l.probEn, l.probTrap,
    l.ejtagBrk, l.dm]

/-- A Control layout puts every field at a bit of its own inside the `n` bits of the register (00 R6: `ECR_LEN` is at least
19, since PrAcc is bit 18), which one scan of the host can carry (40 R160). -/
def EcrLayout.legal (n : Nat) (l : EcrLayout) : Bool :=
  decide l.positions.Nodup && l.positions.all (fun p => decide (p < n)) && decide (n ≤ 64)

/-- The bit positions a status layout uses (10 R31). -/
def StatusLayout.positions (l : StatusLayout) : List Nat :=
  [l.cps, l.nvmErr, l.cfgRdy, l.fcBusy, l.faen, l.devRst]

/-- A status layout puts every flag at a bit of its own inside the byte. -/
def StatusLayout.legal (l : StatusLayout) : Bool :=
  decide l.positions.Nodup && l.positions.all (fun p => decide (p < 8))

/-- `ALL_ORDER` is an order of the three registers (42 R229). -/
def allOrderLegal (o : List AllPart) : Bool :=
  decide o.Nodup && o.length == 3

/-- IDCODE bit 0 reads 1 and bits [11:1] hold the manufacturer code 0x029 (10 R28). -/
def idcodeLegal (w : Word) : Bool := w.extractLsb' 0 12 == 0x053#12

/-- A status test asks for no bit outside its mask (43 R301: `st & STATUS_OK_MASK = STATUS_OK_VALUE`). -/
def StatusTest.legal (t : StatusTest) : Bool := t.value &&& t.mask == t.value

/-- The checks on the parameters together. -/
def Config.legal (cfg : Config) : Bool :=
  cfg.codes.legal && cfg.ecrLayout.legal cfg.ecrLen && cfg.statusLayout.legal && allOrderLegal cfg.allOrder
    && idcodeLegal cfg.deviceIdcode && cfg.statusRevised.legal && cfg.statusOldway.legal

end Sys2Proof
end

