-- ==== Sys2Proof/Decode.lean ====
section
/-! DEFINITION. Bits and words, the code tables, the decoder and the encoder of instructions (30_encoding.md R110, R111, R120,
R121), and the TCK frames of scans with the decoder of a TCK stream (30 R101 to R104, R124; 40 R140). -/

namespace Sys2Proof

/-! ## Bits, least significant first (20 R72) -/

/-- The bits of a register, bit 0 first. -/
def bitsOf {w : Nat} (v : BitVec w) : List Bool := (List.range w).map v.getLsbD

/-- The number a bit list stands for, bit 0 first. -/
def bitsToNat : List Bool → Nat
  | [] => 0
  | b :: bs => b.toNat + 2 * bitsToNat bs

/-- The `w`-bit register whose bits are `bs`, bit 0 first. -/
def ofBits (w : Nat) (bs : List Bool) : BitVec w := BitVec.ofNat w (bitsToNat bs)

/-- The bytes of a word on the wire and in target memory, lowest first (20 R73, R75). -/
def wordBytes (w : Word) : List Byte :=
  [w.extractLsb' 0 8, w.extractLsb' 8 8, w.extractLsb' 16 8, w.extractLsb' 24 8]

/-! ## The code tables -/

/-- The default codes of 30 R110 and R111. -/
def defaultCodes : Codes where
  mtapIdcode := 0x01#5
  swMtap := 0x04#5
  swEtap := 0x05#5
  mtapCommand := 0x07#5
  bypass := 0x1F#5
  etapIdcode := 0x01#5
  etapImpcode := 0x03#5
  etapAddress := 0x08#5
  etapData := 0x09#5
  etapControl := 0x0A#5
  etapAll := 0x0B#5
  etapEjtagboot := 0x0C#5
  etapNormalboot := 0x0D#5
  etapFastdata := 0x0E#5
  mchpStatus := 0x00#8
  mchpAssertRst := 0xD1#8
  mchpDeassertRst := 0xD0#8
  mchpErase := 0xFC#8
  mchpFlashEnable := 0xFE#8
  mchpFlashDisable := 0xFD#8

/-- The rows of 30 R110 that a TAP decodes, the three of both columns first. -/
def irRows (c : Codes) (t : Tap) : List (IrCode × Instr) :=
  [(c.swMtap, .swMtap), (c.swEtap, .swEtap), (c.bypass, .bypass)] ++
    match t with
    | .mtap => [(c.mtapIdcode, .mtapIdcode), (c.mtapCommand, .mtapCommand)]
    | .etap =>
      [(c.etapIdcode, .etapIdcode), (c.etapImpcode, .etapImpcode), (c.etapAddress, .etapAddress),
        (c.etapData, .etapData), (c.etapControl, .etapControl), (c.etapAll, .etapAll),
        (c.etapEjtagboot, .etapEjtagboot), (c.etapNormalboot, .etapNormalboot), (c.etapFastdata, .etapFastdata)]

/-- The rows of 30 R111. -/
def mchpRows (c : Codes) : List (Byte × Instr) :=
  [(c.mchpStatus, .mchpStatus), (c.mchpAssertRst, .mchpAssertRst), (c.mchpDeassertRst, .mchpDeassertRst),
    (c.mchpErase, .mchpErase), (c.mchpFlashEnable, .mchpFlashEnable), (c.mchpFlashDisable, .mchpFlashDisable)]

/-! ## The decoder and the encoder -/

/-- Why a word is no instruction. -/
inductive DecodeError where
  /-- the selected TAP's column lists no such code (30 R120) -/
  | unlistedIr (t : Tap) (v : IrCode)
  /-- 30 R111 lists no such command (30 R121) -/
  | unlistedCommand (v : Byte)
  /-- a command reaches no command register while ETAP is selected (41 R198) -/
  | commandUnderEtap (v : Byte)
  /-- the byte is no 5-bit code -/
  | tooWide (v : Byte)
  deriving DecidableEq, Repr

/-- The instruction a listed word stands for. -/
def lookup {α : Type} [DecidableEq α] (rows : List (α × Instr)) (v : α) : Option Instr :=
  match rows with
  | [] => none
  | (k, i) :: rest => if k = v then some i else lookup rest v

/-- The decoder of the instruction register under the selected TAP (30 R110, R120; 40 R156). -/
def decodeIr (c : Codes) (t : Tap) (v : IrCode) : Except DecodeError Instr :=
  match lookup (irRows c t) v with
  | some i => .ok i
  | none => .error (.unlistedIr t v)

/-- The decoder of the Microchip command register (30 R111, R121). -/
def decodeMchp (c : Codes) (v : Byte) : Except DecodeError Instr :=
  match lookup (mchpRows c) v with
  | some i => .ok i
  | none => .error (.unlistedCommand v)

/-- The decoder of any word under the selected TAP. -/
def decode (c : Codes) (t : Tap) : Code → Except DecodeError Instr
  | .ir v => decodeIr c t v
  | .mchp v => if t = .mtap then decodeMchp c v else .error (.commandUnderEtap v)

/-- The word of an instruction (30 R110, R111). -/
def encode (c : Codes) : Instr → Code
  | .mtapIdcode => .ir c.mtapIdcode
  | .swMtap => .ir c.swMtap
  | .swEtap => .ir c.swEtap
  | .mtapCommand => .ir c.mtapCommand
  | .bypass => .ir c.bypass
  | .etapIdcode => .ir c.etapIdcode
  | .etapImpcode => .ir c.etapImpcode
  | .etapAddress => .ir c.etapAddress
  | .etapData => .ir c.etapData
  | .etapControl => .ir c.etapControl
  | .etapAll => .ir c.etapAll
  | .etapEjtagboot => .ir c.etapEjtagboot
  | .etapNormalboot => .ir c.etapNormalboot
  | .etapFastdata => .ir c.etapFastdata
  | .mchpStatus => .mchp c.mchpStatus
  | .mchpAssertRst => .mchp c.mchpAssertRst
  | .mchpDeassertRst => .mchp c.mchpDeassertRst
  | .mchpErase => .mchp c.mchpErase
  | .mchpFlashEnable => .mchp c.mchpFlashEnable
  | .mchpFlashDisable => .mchp c.mchpFlashDisable

/-- The instruction-register decoder on a byte: a code above 5 bits is none. -/
def decodeIrByte (c : Codes) (t : Tap) (b : Byte) : Except DecodeError Instr :=
  if b.toNat < 32 then decodeIr c t (b.setWidth 5) else .error (.tooWide b)

/-- Where a table word is shifted: the instruction register of one TAP, or the command register. -/
inductive Slot where
  | ir (t : Tap)
  | command
  deriving DecidableEq, Repr

/-- The register a table word belongs to under a code table, with its instruction: the MTAP column first, then the ETAP
column, then the commands. The table numbers 0x01 twice (`MTAP_IDCODE`, `ETAP_IDCODE`; 30 R110): the selected
TAP tells them apart, and without one the MTAP row is taken (DESIGN CHOICE, log 13). -/
def slotOf (c : Codes) (b : Byte) : Option (Slot × Instr) :=
  match decodeIrByte c .mtap b with
  | .ok i => some (.ir .mtap, i)
  | .error _ =>
    match decodeIrByte c .etap b with
    | .ok i => some (.ir .etap, i)
    | .error _ =>
      match decodeMchp c b with
      | .ok i => some (.command, i)
      | .error _ => none

/-- The instruction the decoder reads from a table word: a word is one byte at most (30 R131), and bits above it belong to no
field of an instruction (30 R124: the length of a data scan is not encoded). -/
def decodeTableWord (_nbits w : Nat) : Option Instr :=
  (slotOf defaultCodes (BitVec.ofNat 8 w)).map Prod.snd

/-! ## TCK frames -/

/-- The transition table of 40 R140. -/
def TapState.next : TapState → Bool → TapState
  | .tlr, false => .rti | .tlr, true => .tlr
  | .rti, false => .rti | .rti, true => .sds
  | .sds, false => .cdr | .sds, true => .sis
  | .cdr, false => .sdr | .cdr, true => .e1d
  | .sdr, false => .sdr | .sdr, true => .e1d
  | .e1d, false => .pdr | .e1d, true => .udr
  | .pdr, false => .pdr | .pdr, true => .e2d
  | .e2d, false => .sdr | .e2d, true => .udr
  | .udr, false => .rti | .udr, true => .sds
  | .sis, false => .cir | .sis, true => .tlr
  | .cir, false => .sir | .cir, true => .e1i
  | .sir, false => .sir | .sir, true => .e1i
  | .e1i, false => .pir | .e1i, true => .uir
  | .pir, false => .pir | .pir, true => .e2i
  | .e2i, false => .sir | .e2i, true => .uir
  | .uir, false => .rti | .uir, true => .sds

/-- A cycle that carries no data bit: TDI is 0 and TDO is not sampled (30 R100, R101). -/
def quiet (tms : Bool) : Cycle := ⟨tms, false, false⟩

/-- The data cycles of a scan: TMS = 1 on the last one only (30 R101). -/
def dataCycles (rd : Bool) : List Bool → List Cycle
  | [] => []
  | [b] => [⟨true, b, rd⟩]
  | b :: b' :: bs => ⟨false, b, rd⟩ :: dataCycles rd (b' :: bs)

/-- The bracketed data phase of a scan; nothing for no data (30 R101). -/
def dataPhase (rd : Bool) : List Bool → List Cycle
  | [] => []
  | b :: bs => [quiet true, quiet false, quiet false] ++ dataCycles rd (b :: bs) ++ [quiet true, quiet false]

/-- The first `n` bits of a scan word. -/
def scanBits (n : Nat) (v : ScanWord) : List Bool := (List.range n).map v.getLsbD

/-- The cycles of `Scan(leadN, leadTms, n, v, rd)` (30 R101). -/
def scanCycles (lead : List Bool) (n : Nat) (v : ScanWord) (rd : Bool) : List Cycle :=
  lead.map quiet ++ dataPhase rd (scanBits n v)

/-- The cycles of an IR scan and of a DR scan (30 R102, R103). -/
def Scan.cycles : Scan → List Cycle
  | .ir c => quiet true :: dataPhase false (bitsOf c)
  | .dr bits rd => dataPhase rd bits

/-- What a stream decoder reads of a scan (30 R124). -/
def Scan.recorded : Scan → Recorded
  | .ir c => ⟨true, bitsOf c⟩
  | .dr bits _ => ⟨false, bits⟩

/-- The lead-in of a TAP reset (30 R104): five TMS = 1 and one TMS = 0. -/
def tapResetLead : List Bool := [true, true, true, true, true, false]

/-- The decoder of a TCK stream (30 R124): it runs the state machine, gathers the TDI bits of the shift cycles, and
reports a scan at its Update state. `acc` holds the bits gathered so far. What it reports of a stream that is no sequence of whole
scans is the model's (DESIGN CHOICE, log 36). -/
def readStream : TapState → List Bool → List Cycle → List Recorded
  | _, _, [] => []
  | .sdr, acc, c :: cs => readStream (TapState.next .sdr c.tms) (acc ++ [c.tdi]) cs
  | .sir, acc, c :: cs => readStream (TapState.next .sir c.tms) (acc ++ [c.tdi]) cs
  | .cdr, _, c :: cs => readStream (TapState.next .cdr c.tms) [] cs
  | .cir, _, c :: cs => readStream (TapState.next .cir c.tms) [] cs
  | .udr, acc, c :: cs => ⟨false, acc⟩ :: readStream (TapState.next .udr c.tms) [] cs
  | .uir, acc, c :: cs => ⟨true, acc⟩ :: readStream (TapState.next .uir c.tms) [] cs
  | .tlr, acc, c :: cs => readStream (TapState.next .tlr c.tms) acc cs
  | .rti, acc, c :: cs => readStream (TapState.next .rti c.tms) acc cs
  | .sds, acc, c :: cs => readStream (TapState.next .sds c.tms) acc cs
  | .e1d, acc, c :: cs => readStream (TapState.next .e1d c.tms) acc cs
  | .pdr, acc, c :: cs => readStream (TapState.next .pdr c.tms) acc cs
  | .e2d, acc, c :: cs => readStream (TapState.next .e2d c.tms) acc cs
  | .sis, acc, c :: cs => readStream (TapState.next .sis c.tms) acc cs
  | .e1i, acc, c :: cs => readStream (TapState.next .e1i c.tms) acc cs
  | .pir, acc, c :: cs => readStream (TapState.next .pir c.tms) acc cs
  | .e2i, acc, c :: cs => readStream (TapState.next .e2i c.tms) acc cs

end Sys2Proof
end

