-- ==== Sys2Proof/Machine/Params.lean ====
section
/-! DEFINITION. The default values of the parameters (00_scope.md R6, 30_encoding.md R113, R118, 10_state.md R31) and the
configuration of the reset state: the device of the spec's test vectors (95, opening paragraph). -/

namespace Sys2Proof

/-- The default Control positions (30 R113). -/
def defaultEcrLayout : EcrLayout where
  rocc := 31
  psz := 29
  vped := 23
  doze := 22
  halt := 21
  perRst := 20
  prnw := 19
  prRst := 16
  probEn := 15
  probTrap := 14
  ejtagBrk := 12
  dm := 3

/-- The default access rights of the Control fields (10 R32). -/
def defaultEcrAccess : EcrAccess where
  rocc := .w0
  perRst := .rw
  prAcc := .w0
  prRst := .rw
  probEn := .rw
  probTrap := .rw
  ejtagBrk := .w1

/-- The default status positions (10 R31). -/
def defaultStatusLayout : StatusLayout where
  cps := 7
  nvmErr := 5
  cfgRdy := 3
  fcBusy := 2
  faen := 1
  devRst := 0

/-- The default Programming Executive opcodes (30 R118). -/
def defaultPeCodes : PeCodes where
  rowProgram := 0x0
  read := 0x1
  wordProgram := 0x3
  execVersion := 0x7
  getCrc := 0x8
  quadWordProgram := 0xD
  doubleWordProgram := 0xE

/-- The default of `WIDE_PROGRAM` (00 R6, 43 R323). -/
def defaultWideProgram : List (Family × WideProgram) :=
  [(.mx1, .single), (.mx3, .single), (.mm, .double), (.mz, .quad), (.mk, .quad)]

/-- The parameters of the reset state: each default of 00 R6, the opaque constants for what is OPEN there, and the
device of 95_test_vectors.md (`DEVICE_IDCODE` 0x04307053, `FAMILY` MX3, its one device-table entry, V-SRC-1). -/
def defaultConfig : Config where
  family := .mx3
  deviceIdcode := 0x04307053
  notProtected := true
  admitGkForms := false
  codes := defaultCodes
  ecrLen := 32
  addrLen := 32
  ecrLayout := defaultEcrLayout
  ecrAccess := defaultEcrAccess
  statusLayout := defaultStatusLayout
  etapIdcode := Config.openEtapIdcode
  impcode := Config.openImpcode
  allOrder := [.control, .data, .address]
  dmsegLo := 0xFF200000
  dmsegHi := 0xFF2FFFFF
  fastdataLo := 0xFF200000
  fastdataHi := 0xFF20000F
  dmsegVector := 0xFF200200
  targetVector := 0xBFC00480
  resetVector := 0xBFC00000
  pollMax := 150
  pollSlowAfter := 100
  erasePollMax := Config.openErasePollMax
  statusCheck := .revised
  statusRevised := ⟨0x0C, 0x08⟩
  statusOldway := ⟨0xFF, 0x8A⟩
  verifyPolicy := Config.openVerifyPolicy
  crcSeed := 0xFFFF
  frameSeed := 0x0000
  peCodes := defaultPeCodes
  wideProgram := defaultWideProgram
  rowWords := Config.openRowWords
  loader := Config.openLoader
  loaderAddr := 0xA0000800
  peLoadAddr := Config.openPeLoadAddr
  pe := Config.openPe
  peVersion := Config.openPeVersion
  bmxSetup := Config.openBmxSetup
  deviceTable := [⟨0x4307053, "MX795F512L", 512, .mx3⟩]

end Sys2Proof
end

