-- ==== Sys2Proof/Machine/State.lean ====
section
/-! DEFINITION. The state of the block and of the agents around it (10_state.md), the ways a step can stop (60_exceptions.md
R370, R371), and the state right after power-on reset (70_reset_and_hazards.md R402). -/

namespace Sys2Proof.Machine

/-- The Control fields a probe may not set (30 R122). -/
inductive EcrField where
  | perRst | prRst
  deriving DecidableEq, Repr

/-- The block faults of 60 R370. Each one marks the state; the step after the mark answers it. All are safe: the machine
stops where the sources give no behaviour. -/
inductive Fault where
  /-- `F_UNDEFINED_MCHP_CMD`: raised by the Update-DR of an unlisted command (41 R197); safe -/
  | undefinedMchpCmd (code : Byte)
  /-- `F_PROTECTED_CMD`: raised by a reset or flash command while CPS = 0 (41 R199); safe -/
  | protectedCmd (op : MchpOp)
  /-- `F_MZ_FLASH_ENABLE`: raised by FLASH_ENABLE on MZ (41 R207); safe -/
  | mzFlashEnable
  /-- `F_MZ_FLASH_DISABLE`: raised by FLASH_DISABLE on MZ (41 R195); safe -/
  | mzFlashDisable
  /-- `F_UNMODELLED_ECR_WRITE`: raised by a Control write with PerRst = 1 or PrRst = 1 (42 R230); safe -/
  | unmodelledEcrWrite (field : EcrField)
  /-- `F_DEBUG_WITHOUT_PROBEN`: raised by the CPU's post while ProbEn = 0 (42 R251); safe -/
  | debugWithoutProbEn
  deriving DecidableEq, Repr

/-- The refusals of 60 R371, and the arm of an instruction without a meaning. All are safe. -/
inductive Refusal where
  /-- an instruction the model has no meaning for: no arm of `exec` uses it any more; safe -/
  | notModelled (mnemonic : String)
  /-- `R_UNMODELLED_IR`: raised at Update-IR or Capture-DR by a code the selected TAP does not list or the configuration
  does not admit (30 R120, 40 R151, R156); safe -/
  | unmodelledIr (tap : Tap) (code : IrCode)
  /-- `R_SCAN_TOO_LONG`: raised by a scan of more than 64 bits (40 R160); safe -/
  | scanTooLong
  /-- `R_HOST_PRECONDITION`: raised by a host operation called against its precondition (43 R285 to R328); safe -/
  | hostPrecondition
  /-- `R_MISALIGNED`: raised by a word operation at an address that is no multiple of its size (20 R77); safe -/
  | misaligned
  /-- `R_MK_LOADER`: raised by `load_executive` on MK (43 R310); safe -/
  | mkLoader
  deriving DecidableEq, Repr

/-- The host's fatal diagnostics (60 R372): legitimate outcomes that end the session. -/
inductive Diagnostic where
  | transport | frame | unknownDevice | codeProtection | statusAfterReset | prAccNotSet | peVersion | peOpcodeEcho
  | peStatus | crcMismatch | eraseTimeout
  deriving DecidableEq, Repr

/-- The host's non-fatal diagnostics (60 R373). -/
inductive LogEntry where
  | crcMismatch (remote loc : Half)
  | invalidReadChar
  deriving DecidableEq, Repr

/-- The 5-bit instruction shift register (10 R23), `b0` its least significant bit. -/
structure IrShift where
  b0 : Bool
  b1 : Bool
  b2 : Bool
  b3 : Bool
  b4 : Bool
  deriving DecidableEq, Repr

/-- The device-level state (10 R30). `cpsKnown` is the model's: false while `cps` is a draw (41 R205). -/
structure Mtap where
  devRst : Bool
  faen : Bool
  fcBusy : Bool
  cfgRdy : Bool
  cps : Bool
  cpsKnown : Bool
  nvmErr : Bool
  deriving DecidableEq, Repr

/-- The stored fields of the EJTAG Control register (10 R32); the others are views (10 R42) or draws. -/
structure Ecr where
  rocc : Bool
  perRst : Bool
  prRst : Bool
  probEn : Bool
  probTrap : Bool
  ejtagBrk : Bool
  deriving DecidableEq, Repr

/-- The CPU's modes as the block sees them (10 R38). -/
inductive CpuMode where
  | reset | run | debug
  deriving DecidableEq, Repr

/-- The CPU as the block sees it (10 R38). `pc` is where the last reset exit or debug entry sent the CPU (60 R380, R381);
`atVector` holds from a debug entry with ProbTrap = 1 to the first post after it (42 R252); `posted` holds from a post to
the next power-on or device reset; while it does not hold PRnW reads its reset value 0 (10 R32; DEDUCED, log 8). -/
structure Cpu where
  mode : CpuMode
  pending : Option Access
  delivered : List Word
  pc : Word
  atVector : Bool
  posted : Bool
  deriving DecidableEq, Repr

/-- The flash contents, which the block never reads (10 R39): as they were at power-on, or erased. -/
inductive FlashContents where
  | asItWas | allErased
  deriving DecidableEq, Repr

/-- The flash controller (10 R39). `configPending` holds until the one configuration step after power-on (41 R205). -/
structure Flash where
  eraseRunning : Bool
  contents : FlashContents
  configPending : Bool
  deriving DecidableEq, Repr

/-- The scratch buffer of 64 bytes (10 R41); the first `len` of them are the reply of the last command. -/
structure ReplyBuffer where
  bytes : Vector Byte 64
  len : Nat
  deriving DecidableEq, Repr

/-- The host's session state (10 R41) and what its operations returned (43 R334). -/
structure Session where
  isOpen : Bool
  useExecutive : Bool
  serialExecutionMode : Bool
  hostSel : Option Tap
  hostIr : Option IrCode
  reply : ReplyBuffer
  /-- `seqPos`: what is left of the host's operations -/
  todo : List HostTask
  /-- the TDO bits of the scan under way, first first -/
  rx : List Bool
  /-- what the last reading scan returned, bit 0 first -/
  result : List Bool
  /-- what every reading scan returned, oldest first -/
  results : List (List Bool)
  word : Word
  sync : Bool
  resp : List Word
  data : List Word
  /-- the bytes `encode_frame` returned (44 R350) -/
  frame : List Byte
  /-- what `decode_frame` returned: a command and its data, or the empty reply (44 R351) -/
  received : Option (Byte × List Byte)
  device : Option DeviceEntry
  fatal : Option Diagnostic
  log : List LogEntry
  deriving DecidableEq, Repr

/-- The state (10 R20), with the host's session (10 R41), the parameters (10 R44), and the model's own fields: the turns
of the agents still to come, and the number of free values drawn. -/
structure State where
  cfg : Config
  tapState : TapState
  irShift : IrShift
  ir : IrCode
  tapSel : Tap
  drShift : List Bool
  mtap : Mtap
  ecr : Ecr
  ejData : Word
  ejAddr : Word
  fdCapt : Bool
  ejtagBoot : Bool
  cpu : Cpu
  flash : Flash
  crc : Half
  faults : List Fault
  refused : Option Refusal
  host : Session
  agenda : List Turn
  draws : Nat
  deriving DecidableEq, Repr

/-- A TAP as a free value (10 R24 `RESET_TAPSEL`). -/
def freeTap (k : Nat) : Tap := if Config.free 1 k = 0#1 then .mtap else .etap

/-- The machine right after power-on reset (70 R402, 10 R41): no session, no operation, no turn. What R402 leaves at
any value is 0 (DESIGN CHOICE, log 5), and the TAP selected is a free value (log 6). Before the first `session_open` the
host's flags are false and its selection is unknown, as at a session open (DESIGN CHOICE, log 42). -/
def State.reset : State where
  cfg := defaultConfig
  tapState := .tlr
  irShift := ⟨false, false, false, false, false⟩
  ir := 0x01
  tapSel := freeTap 0
  drShift := List.replicate 32 false
  mtap := ⟨false, false, false, false, false, false, false⟩
  ecr := ⟨true, false, false, false, false, false⟩
  ejData := 0
  ejAddr := 0
  fdCapt := false
  ejtagBoot := false
  cpu := ⟨.run, none, [], 0xBFC00000, false, false⟩
  flash := ⟨false, .asItWas, true⟩
  crc := 0
  faults := []
  refused := none
  host := ⟨false, false, false, none, none, ⟨.replicate 64 0, 0⟩, [], [], [], [], 0, false, [], [], [], none, none, none, []⟩
  agenda := []
  draws := 1

end Sys2Proof.Machine
end

