-- ==== Sys2Proof/Machine/Flags.lean ====
section
/-! DEFINITION. The flags and views: the status byte (10_state.md R31), the Control register's value (10 R32, R42), the
address areas (20_memory.md R70, 42_etap.md R240), and the status tests of the host (43 R300 to R302, 30 R112). -/

namespace Sys2Proof.Machine

/-! ## Address areas -/

/-- An address of debug memory (20 R70c). -/
def inDmseg (cfg : Config) (a : Word) : Bool := decide (cfg.dmsegLo ≤ a) && decide (a ≤ cfg.dmsegHi)

/-- An address of `FASTDATA_AREA` (00 R6). -/
def inFastdata (cfg : Config) (a : Word) : Bool := decide (cfg.fastdataLo ≤ a) && decide (a ≤ cfg.fastdataHi)

/-! ## Views of the CPU (10 R42) -/

/-- `ecr.PrAcc`: an access is pending (10 R42a). -/
def State.prAcc (s : State) : Bool := s.cpu.pending.isSome

/-- `ecr.PRnW`: the pending access is a store (10 R42b). With none pending it is 0 after a power-on or a device reset (70
R402, R403), until an access is posted, and from then on any value, here `free` (93 Part 1; DEDUCED, log 8). -/
def State.prnw (s : State) (free : Bool) : Bool :=
  match s.cpu.pending with
  | some a => a.kind == .store
  | none => s.cpu.posted && free

/-- The two bits of `Psz` (10 R42b): 1 byte is 0, 2 are 1, 4 are 2. -/
def sizeCode : AccessSize → BitVec 2
  | .byte => 0
  | .half => 1
  | .word => 2

/-- Bit `j` of `ecr.Psz`; with no access pending it is any value, here `free` (10 R32). -/
def State.pszBit (s : State) (j : Nat) (free : Bool) : Bool :=
  match s.cpu.pending with
  | some a => (sizeCode a.size).getLsbD j
  | none => free

/-- `ecr.DM`: the CPU is in debug mode (10 R42c). -/
def State.dm (s : State) : Bool := s.cpu.mode == .debug

/-- `fdPending`: a load or store of the FastData area is pending (42 R240). -/
def State.fdPending (s : State) : Bool :=
  match s.cpu.pending with
  | some a => (a.kind == .load || a.kind == .store) && inFastdata s.cfg a.addr
  | none => false

/-! ## The Control register's value -/

/-- Bit `i` of the Control register (10 R32, R42). `d` supplies every bit that the rules leave at any value: VPED, Doze,
Halt, the reserved bits, and Psz and PRnW with no access pending. -/
def State.ecrBit {n : Nat} (s : State) (d : BitVec n) (i : Nat) : Bool :=
  let l := s.cfg.ecrLayout
  if i = l.prAcc then s.prAcc
  else if i = l.rocc then s.ecr.rocc
  else if i = l.psz then s.pszBit 0 (d.getLsbD i)
  else if i = l.psz + 1 then s.pszBit 1 (d.getLsbD i)
  else if i = l.perRst then s.ecr.perRst
  else if i = l.prnw then s.prnw (d.getLsbD i)
  else if i = l.prRst then s.ecr.prRst
  else if i = l.probEn then s.ecr.probEn
  else if i = l.probTrap then s.ecr.probTrap
  else if i = l.ejtagBrk then s.ecr.ejtagBrk
  else if i = l.dm then s.dm
  else d.getLsbD i

/-- The `ECR_LEN` bits `ecr_value()` captures (42 R221, 00 R6). -/
def State.ecrBits {n : Nat} (s : State) (d : BitVec n) : List Bool := (List.range s.cfg.ecrLen).map (s.ecrBit d)

/-! ## The status byte -/

/-- Bit `i` of the status byte (10 R31). `d` supplies bits 6 and 4, and CPS while it is a draw (41 R205). -/
def State.statusBit (s : State) (d : Byte) (i : Nat) : Bool :=
  let l := s.cfg.statusLayout
  if i = l.cps then (if s.mtap.cpsKnown then s.mtap.cps else d.getLsbD i)
  else if i = l.nvmErr then s.mtap.nvmErr
  else if i = l.cfgRdy then s.mtap.cfgRdy
  else if i = l.fcBusy then s.mtap.fcBusy
  else if i = l.faen then s.mtap.faen
  else if i = l.devRst then s.mtap.devRst
  else d.getLsbD i

/-- The 8 bits `status()` returns (10 R31). -/
def State.statusBits (s : State) (d : Byte) : List Bool := (List.range 8).map (s.statusBit d)

/-! ## Masks and the host's tests -/

/-- The one-bit mask of a Control position (30 R113), as a value of the host's scan. -/
def ecrMask (p : Nat) : ScanWord := BitVec.ofNat 64 (2 ^ p)

/-- `POLL_WORD` (30 R114). -/
def pollWord (l : EcrLayout) : ScanWord := ecrMask l.prAcc ||| ecrMask l.probEn ||| ecrMask l.probTrap

/-- `RELEASE_WORD` (30 R114). -/
def releaseWord (l : EcrLayout) : ScanWord := ecrMask l.probEn ||| ecrMask l.probTrap

/-- The one-bit mask of a status position (30 R112). -/
def statusMask (p : Nat) : Byte := BitVec.ofNat 8 (2 ^ p)

/-- `(st & mask) = value`, bit by bit: the bits outside the mask do not matter. -/
def maskedEq (st : List Bool) (mask value : Byte) : Bool :=
  (List.range 8).all fun i => (mask.getLsbD i && st.getD i false) == value.getLsbD i

/-- The pair `STATUS_OK_MASK`, `STATUS_OK_VALUE` that `STATUS_CHECK` chooses (00 R6, 43 R301). -/
def statusTest (cfg : Config) : StatusTest :=
  match cfg.statusCheck with
  | .revised => cfg.statusRevised
  | .oldway => cfg.statusOldway

/-- `status_ok(st)` (43 R301). -/
def statusOk (cfg : Config) (st : List Bool) : Bool := maskedEq st (statusTest cfg).mask (statusTest cfg).value

/-- The erase completion test (43 R302). -/
def eraseDone (cfg : Config) (st : List Bool) : Bool :=
  let l := cfg.statusLayout
  maskedEq st (statusMask l.fcBusy ||| statusMask l.cfgRdy) (statusMask l.cfgRdy)

end Sys2Proof.Machine
end

