-- ==== Sys2Proof/Machine/Operands.lean ====
section
/-! DEFINITION. The data registers as operands: what Capture-DR puts into the shift register for each of them, and how Update-DR
reads it back (10_state.md R26, 40_tap_fsm.md R151 to R155). -/

namespace Sys2Proof.Machine

/-- The length of the data register an instruction selects (10 R26, 00 R6). A command is carried by the 8-bit command
register. -/
def drWidth (cfg : Config) : Instr → Nat
  | .mtapIdcode => 32
  | .swMtap => 1
  | .swEtap => 1
  | .mtapCommand => 8
  | .bypass => 1
  | .etapIdcode => 32
  | .etapImpcode => 32
  | .etapAddress => cfg.addrLen
  | .etapData => 32
  | .etapControl => cfg.ecrLen
  | .etapAll => cfg.addrLen + 32 + cfg.ecrLen
  | .etapEjtagboot => 1
  | .etapNormalboot => 1
  | .etapFastdata => 33
  | .mchpStatus => 8
  | .mchpAssertRst => 8
  | .mchpDeassertRst => 8
  | .mchpErase => 8
  | .mchpFlashEnable => 8
  | .mchpFlashDisable => 8

/-- A free value has been drawn. -/
def State.bump (s : State) : State := { s with draws := s.draws + 1 }

/-- Capture-DR loads the shift register (40 R151). -/
def State.capture (bs : List Bool) (s : State) : State := { s with drShift := bs }

/-- Shift-DR: `drShift <- {tdi, drShift[W-1:1]}` (40 R152). -/
def shiftDr (tdi : Bool) (bs : List Bool) : List Bool := (bs ++ [tdi]).tail

/-- The code in the instruction shift register (40 R156). -/
def IrShift.code (v : IrShift) : IrCode := ofBits 5 [v.b0, v.b1, v.b2, v.b3, v.b4]

/-- The instruction shift register that holds a code. -/
def IrShift.ofCode (c : IrCode) : IrShift := ⟨c.getLsbD 0, c.getLsbD 1, c.getLsbD 2, c.getLsbD 3, c.getLsbD 4⟩

/-- Shift-IR: `irShift <- {tdi, irShift[4:1]}` (40 R155). -/
def shiftIr (tdi : Bool) (v : IrShift) : IrShift := ⟨v.b1, v.b2, v.b3, v.b4, tdi⟩

/-- Capture-IR: bits [1:0] are 0b01, bits [4:2] a draw (40 R154). -/
def captureIr (s : State) : State :=
  let d := Config.free 3 s.draws
  { s with irShift := ⟨true, false, d.getLsbD 0, d.getLsbD 1, d.getLsbD 2⟩, draws := s.draws + 1 }

/-- BYPASS captures 0 (10 R27). -/
def captureBypass (s : State) : State := s.capture [false]

/-- A 32-bit read-only register captures its value (10 R28, R37). -/
def captureWord (w : Word) (s : State) : State := s.capture (bitsOf w)

/-- The command register captures the status byte (10 R29, 41 R183). -/
def captureStatus (s : State) : State := (s.capture (s.statusBits (Config.free 8 s.draws))).bump

/-- The Control register captures its value (42 R221). -/
def captureControl (s : State) : State := (s.capture (s.ecrBits (Config.free s.cfg.ecrLen s.draws))).bump

/-- The Data register captures `ejData` (42 R222). -/
def captureData (s : State) : State := s.capture (bitsOf s.ejData)

/-- Bit `i` of the Address register: the pending access's address; any value, here `d`, with none pending (42 R227) and
above the 32 bits of an address (DESIGN CHOICE, log 33). -/
def State.addrBit {n : Nat} (s : State) (d : BitVec n) (i : Nat) : Bool :=
  if s.cpu.pending.isSome && decide (i < 32) then s.ejAddr.getLsbD i else d.getLsbD i

/-- The `ADDR_LEN` bits of the Address register (10 R34, 00 R6). -/
def State.addrBits {n : Nat} (s : State) (d : BitVec n) : List Bool := (List.range s.cfg.addrLen).map (s.addrBit d)

/-- The Address register captures (42 R227). -/
def captureAddress (s : State) : State := (s.capture (s.addrBits (Config.free s.cfg.addrLen s.draws))).bump

/-- FastData captures `{ejData, fdPending}` and latches `fdCapt` (42 R240). -/
def captureFastdata (s : State) : State :=
  { s with fdCapt := s.fdPending, drShift := s.fdPending :: bitsOf s.ejData }

/-- The length of one part of the `ETAP_ALL` chain (10 R26). -/
def partWidth (cfg : Config) : AllPart → Nat
  | .address => cfg.addrLen
  | .data => 32
  | .control => cfg.ecrLen

/-- The bits of one part of the `ETAP_ALL` chain, for the two draws of the capture (42 R229). -/
def State.allPartBits {m n : Nat} (s : State) (ctl : BitVec m) (adr : BitVec n) : AllPart → List Bool
  | .address => s.addrBits adr
  | .data => bitsOf s.ejData
  | .control => s.ecrBits ctl

/-- `ETAP_ALL` captures all three registers in the order of `ALL_ORDER` (42 R229). -/
def captureAll (s : State) : State :=
  ((s.capture (s.cfg.allOrder.flatMap
    (s.allPartBits (Config.free s.cfg.ecrLen s.draws) (Config.free s.cfg.addrLen (s.draws + 1))))).bump).bump

/-- The bits that `ALL_ORDER` gives to one part of the chain. -/
def allPart (cfg : Config) (p : AllPart) : List AllPart → List Bool → List Bool
  | [], _ => []
  | q :: qs, bs =>
    if q = p then bs.take (partWidth cfg q) else allPart cfg p qs (bs.drop (partWidth cfg q))

/-- The synchronisation bit and the data word of a FastData value (20 R74). -/
def fastdataParts (bs : List Bool) : Bool × Word := (bs.headD false, ofBits 32 bs.tail)

end Sys2Proof.Machine
end

