-- ==== Sys2Proof/Machine/Ops.lean ====
section
/-! DEFINITION. The shared operations: named updates, the completion of a processor access (42 R231), the Control write (42 R230),
taking the debug exception and leaving debug mode (60 R380 to R383, 42 R259), the reset exit (60 R381), the reset events (70 R400 to
R403), and the shape of a TAP instruction's meaning (40 R150 to R156). -/

namespace Sys2Proof.Machine

open Host (Outcome)

/-- The three outcomes of a meaning. -/
abbrev Result := Outcome State Fault Refusal

/-! ## Named updates -/

/-- Update-IR latches the code (40 R156). -/
def State.latchIr (c : IrCode) (s : State) : State := { s with ir := c }

def State.setTapSel (t : Tap) (s : State) : State := { s with tapSel := t }

def State.setEjData (w : Word) (s : State) : State := { s with ejData := w }

def State.setEjtagBoot (b : Bool) (s : State) : State := { s with ejtagBoot := b }

def State.setMtap (m : Mtap) (s : State) : State := { s with mtap := m }

def State.setEcr (e : Ecr) (s : State) : State := { s with ecr := e }

def State.setCpu (c : Cpu) (s : State) : State := { s with cpu := c }

def State.setFlash (f : Flash) (s : State) : State := { s with flash := f }

def State.setHost (h : Session) (s : State) : State := { s with host := h }

/-- `raise Fault(F)` (60 R370): the mark, and nothing else. -/
def State.mark (f : Fault) (s : State) : State := { s with faults := f :: s.faults }

/-- `refuse(R)` (60 R371): the mark, and nothing else. -/
def State.refuse (r : Refusal) (s : State) : State := { s with refused := some r }

/-- No fault and no refusal has been recorded (10 R43). -/
def State.unmarked (s : State) : Bool := s.faults.isEmpty && s.refused.isNone

/-! ## Processor accesses -/

/-- The words the CPU has received once the access is completed with `w` in the Data register (42 R231). -/
def deliver (a : Access) (w : Word) (ws : List Word) : List Word :=
  match a.kind with
  | .fetch => ws ++ [w]
  | .load => ws ++ [w]
  | .store => ws

/-- `complete_access()` (42 R231); with no access pending there is none to complete. -/
def completeAccess (s : State) : State :=
  match s.cpu.pending with
  | some a => s.setCpu { s.cpu with pending := none, delivered := deliver a s.ejData s.cpu.delivered }
  | none => s

/-! ## The Control write -/

/-- What a write of the bit `v` leaves in a field that holds `old` (10 R32, the access key). -/
def writeAs (a : AccessRight) (old v : Bool) : Bool :=
  match a with
  | .r => old
  | .rw => v
  | .w0 => old && v
  | .w1 => old || v

/-- The check `ecr_write` makes before it writes any field, whatever the access rights (42 R230, 60 R374). Where both
fields are 1 the fault names PerRst (DESIGN CHOICE, log 35). -/
def ecrFault {n : Nat} (l : EcrLayout) (v : BitVec n) : Option Fault :=
  if v.getLsbD l.perRst then some (.unmodelledEcrWrite .perRst)
  else if v.getLsbD l.prRst then some (.unmodelledEcrWrite .prRst)
  else none

/-- The fields a Control write leaves (42 R230), each by its access right. Under the default rights ROCC is cleared by 0,
ProbEn and ProbTrap are written, EjtagBrk is set by 1, and PerRst and PrRst are written with 0, the only value that passes
the check (10 R32, 20 R80; DEDUCED, log 25). -/
def ecrFields {n : Nat} (l : EcrLayout) (a : EcrAccess) (v : BitVec n) (e : Ecr) : Ecr where
  rocc := writeAs a.rocc e.rocc (v.getLsbD l.rocc)
  perRst := writeAs a.perRst e.perRst (v.getLsbD l.perRst)
  prRst := writeAs a.prRst e.prRst (v.getLsbD l.prRst)
  probEn := writeAs a.probEn e.probEn (v.getLsbD l.probEn)
  probTrap := writeAs a.probTrap e.probTrap (v.getLsbD l.probTrap)
  ejtagBrk := writeAs a.ejtagBrk e.ejtagBrk (v.getLsbD l.ejtagBrk)

/-- A Control write that passes the check (42 R230). A write that leaves PrAcc at 0 completes the pending access: under the
default right W0, a write of 0. A request for the debug exception stays pending in EjtagBrk: the CPU takes it in a turn of
its own (60 R383). -/
def ecrApply {n : Nat} (v : BitVec n) (s : State) : State :=
  let s' := if writeAs s.cfg.ecrAccess.prAcc s.prAcc (v.getLsbD s.cfg.ecrLayout.prAcc) then s else completeAccess s
  s'.setEcr (ecrFields s.cfg.ecrLayout s.cfg.ecrAccess v s'.ecr)

/-- `ecr_write(v)` (42 R230). -/
def ecrWrite {n : Nat} (v : BitVec n) (s : State) : Result :=
  match ecrFault s.cfg.ecrLayout v with
  | some f => .fault f
  | none => .next (ecrApply v s)

/-! ## The debug exception -/

/-- `debug_exception_entry()` (60 R380): debug mode, the request cleared, the CPU at the vector ProbTrap chooses. -/
def debugExceptionEntry (s : State) : State :=
  (s.setCpu { s.cpu with
    mode := .debug
    pc := if s.ecr.probTrap then s.cfg.dmsegVector else s.cfg.targetVector
    atVector := s.ecr.probTrap }).setEcr { s.ecr with ejtagBrk := false }

/-- Leaving debug mode (42 R259, 60 R382). -/
def leaveDebug (s : State) : State :=
  s.setCpu { s.cpu with mode := .run, pending := none, atVector := false }

/-- `cpu_reset_exit()` (60 R381). A request left pending by a Control write during reset is taken at the exit (60 R383;
DEDUCED, log 16). -/
def cpuResetExit (s : State) : State :=
  if s.ejtagBoot then
    debugExceptionEntry (s.setEcr { s.ecr with probEn := true, probTrap := true, ejtagBrk := true })
  else
    let s' := s.setCpu { s.cpu with mode := .run, pc := s.cfg.resetVector, atVector := false }
    if s'.ecr.ejtagBrk then debugExceptionEntry s' else s'

/-! ## Reset events -/

/-- `tlr_actions()` (70 R401). -/
def tlrActions (s : State) : State :=
  { s with
    ir := s.cfg.codes.mtapIdcode
    tapSel := freeTap s.draws
    ejtagBoot := false
    ecr := { s.ecr with probEn := false, probTrap := false, ejtagBrk := false, perRst := false, prRst := false }
    fdCapt := false
    draws := s.draws + 1 }

/-- The assertion of the device reset (41 R191, 70 R403). ROCC is set also where the reset is asserted already (DESIGN CHOICE,
log 39). -/
def assertReset (s : State) : State :=
  ((s.setMtap { s.mtap with devRst := true }).setCpu
    { s.cpu with mode := .reset, pending := none, atVector := false, posted := false }).setEcr { s.ecr with rocc := true }

/-- Power-on reset (70 R400a, R402): every element of the block at its power-on value. The parameters, the flash contents,
the host's session and the agents' turns to come are not the block's to reset (DESIGN CHOICE, log 28). -/
def powerOn (s : State) : State :=
  { State.reset with
    cfg := s.cfg
    ir := s.cfg.codes.mtapIdcode
    tapSel := freeTap s.draws
    cpu := { State.reset.cpu with pc := s.cfg.resetVector }
    flash := { State.reset.flash with contents := s.flash.contents }
    host := s.host
    agenda := s.agenda
    draws := s.draws + 1 }

/-! ## Code protection and replies -/

/-- The value of CPS when a command looks at it: the flag, or a draw before configuration (41 R199, R205). -/
def State.cpsNow (s : State) : Bool :=
  if s.mtap.cpsKnown then s.mtap.cps else (Config.free 1 s.draws).getLsbD 0

/-- The state after that look: a draw is spent if one was taken. -/
def State.lookedAtCps (s : State) : State := if s.mtap.cpsKnown then s else s.bump

/-- The reply of an 8-bit scan that carried a command other than STATUS is any value (41 R196; DEDUCED, log 21). -/
def voidReply (s : State) : State :=
  if s.host.rx.length = 8 then
    (s.setHost { s.host with rx := bitsOf (Config.free 8 s.draws) }).bump
  else s

/-- A command that code protection turns away (41 R199). -/
def unlessProtected (op : MchpOp) (run : State → Result) (s : State) : Result :=
  if s.cpsNow then run s.lookedAtCps else .fault (.protectedCmd op)

/-! ## TAP instructions -/

/-- The meaning of a TAP instruction: what it does at Update-IR, at Capture-DR and at Update-DR (40 R151, R153, R156); in the
other TAP states an instruction has no action of its own (40 R150, R158). -/
def tapInstr (code : IrCode) (atIr capture : State → State) (update : State → Result) (s : State) : Result :=
  match s.tapState with
  | .uir => .next (atIr (s.latchIr code))
  | .cdr => .next (capture s)
  | .udr => update s
  | .tlr | .rti | .sds | .sdr | .e1d | .pdr | .e2d | .sis | .cir | .sir | .e1i | .pir | .e2i => .next s

/-- A data register that Update-DR leaves as it is (10 R27, R28, 40 R153). -/
def noUpdate (s : State) : Result := .next s

/-- An instruction the configuration may not admit (00 R11, 30 R120). -/
def ifAdmitted (code : IrCode) (run : State → Result) (s : State) : Result :=
  if s.cfg.admitGkForms then run s else .refused (.unmodelledIr s.tapSel code)

end Sys2Proof.Machine
end

