-- ==== Sys2Proof/Machine/Agents.lean ====
section
/-! DEFINITION. The CPU agent and the flash agent (42_etap.md R250 to R261, 60_exceptions.md R383, 41_mtap.md R204 to R206). A move
that its rule does not enable is no step of the agent: it changes nothing (DESIGN CHOICE, log 3). -/

namespace Sys2Proof.Machine

/-- The Fetch of 4 bytes from `DMSEG_VECTOR` (42 R252). -/
def isVectorFetch (cfg : Config) (a : Access) : Bool :=
  a.kind == .fetch && a.size == .word && a.addr == cfg.dmsegVector

/-- Whether the CPU can make this processor access now (42 R250 to R252): in debug mode, none pending, in debug memory, and
after an entry with ProbTrap = 1 the first one is the vector fetch. -/
def mayPost (a : Access) (s : State) : Bool :=
  s.cpu.mode == .debug && s.cpu.pending.isNone && inDmseg s.cfg a.addr
    && (!s.cpu.atVector || isVectorFetch s.cfg a)

/-- The post step itself (42 R251). -/
def postAccess (a : Access) (s : State) : State :=
  { s with
    cpu := { s.cpu with pending := some a, atVector := false, posted := true }
    ejAddr := a.addr
    ejData := if a.kind = .store then a.data else s.ejData }

/-- A turn of the CPU (42 R251, R259, R260; 60 R380, R383). -/
def cpuTurn (m : CpuMove) (s : State) : State :=
  match m with
  | .stay => s
  | .post a =>
    if mayPost a s then
      if s.ecr.probEn then postAccess a s else s.mark .debugWithoutProbEn
    else s
  | .leaveDebug => if s.cpu.mode = .debug ∧ s.cpu.pending = none then leaveDebug s else s
  | .takeDebug => if s.cpu.mode = .run ∧ s.ecr.ejtagBrk = true then debugExceptionEntry s else s

/-- The configuration step after power-on (41 R205). -/
def configure (s : State) : State :=
  (s.setFlash { s.flash with configPending := false }).setMtap
    { s.mtap with cfgRdy := true, cps := s.cfg.notProtected, cpsKnown := true }

/-- The completion step of an erase (41 R204): the failure flag is a draw. -/
def finishErase (s : State) : State :=
  ((s.setFlash { s.flash with contents := .allErased, eraseRunning := false }).setMtap
    { s.mtap with
      fcBusy := false, cfgRdy := true, cps := true, cpsKnown := true
      nvmErr := (Config.free 1 s.draws).getLsbD 0 }).bump

/-- A turn of the flash agent (41 R204, R205). -/
def flashTurn (m : FlashMove) (s : State) : State :=
  match m with
  | .configure => if s.flash.configPending then configure s else s
  | .finishErase => if s.flash.eraseRunning then finishErase s else s

end Sys2Proof.Machine
end

