-- ==== Sys2Proof/Machine/Crc.lean ====
section
/-! DEFINITION. The CRC-16 core and the bootloader frame (44_crc16.md). -/

namespace Sys2Proof.Machine

/-- The generator `CRC_POLY` (44 R341). -/
def crcPoly : Half := 0x1021

/-- One shift of the register (44 R341). -/
def crcShift (r : Half) : Half := if r.getLsbD 15 then (r <<< 1) ^^^ crcPoly else r <<< 1

/-- `n` shifts of the register (44 R341). -/
def crcShifts : Nat → Half → Half
  | 0, r => r
  | n + 1, r => crcShifts n (crcShift r)

/-- `crc_byte(b)` on a register value (44 R341): most significant bit first. -/
def crcByte (r : Half) (b : Byte) : Half := crcShifts 8 (r ^^^ (b.setWidth 16 <<< 8))

/-- The value of `crc16(seed, bytes)` (44 R343). The host computes it on the register `crc` (`crcTasks`). -/
def crc16 (seed : Half) (bytes : List Byte) : Half := bytes.foldl crcByte seed

/-- The nibble table of 44 R342. -/
def crcTable : List Half :=
  [0x0000, 0x1021, 0x2042, 0x3063, 0x4084, 0x50A5, 0x60C6, 0x70E7,
    0x8108, 0x9129, 0xA14A, 0xB16B, 0xC18C, 0xD1AD, 0xE1CE, 0xF1EF]

/-- One nibble of the table form (44 R342). -/
def crcNibble (r : Half) (n : BitVec 4) : Half :=
  (r <<< 4) ^^^ crcTable.getD (r.extractLsb' 12 4 ^^^ n).toNat 0

/-- One byte of the table form, two nibbles (44 R342). -/
def crcByteByTable (r : Half) (b : Byte) : Half :=
  crcNibble (crcNibble r (b.extractLsb' 4 4)) (b.extractLsb' 0 4)

/-! ## Frames -/

/-- Start, end and escape of a frame (44 R350). -/
def soh : Byte := 0x01
def eot : Byte := 0x04
def dle : Byte := 0x10

/-- A byte the encoder escapes (44 R350). -/
def isSpecial (x : Byte) : Bool := x == soh || x == eot || x == dle

/-- The escape of one byte: the byte after DLE is kept unchanged (44 R350). -/
def escapeByte (x : Byte) : List Byte := if isSpecial x then [dle, x] else [x]

/-- The escaped bytes of a frame's body. -/
def escapeBody (body : List Byte) : List Byte := body.flatMap escapeByte

/-- The two CRC bytes, low byte first (44 R350). -/
def crcBytes (c : Half) : List Byte := [c.extractLsb' 0 8, c.extractLsb' 8 8]

/-- The frame of a command, its data and their CRC (44 R350). -/
def frameOf (cmd : Byte) (data : List Byte) (c : Half) : List Byte :=
  [soh] ++ escapeBody ([cmd] ++ data ++ crcBytes c) ++ [eot]

/-- The value of `encode_frame(cmd, data)` (44 R350). -/
def encodeFrame (seed : Half) (cmd : Byte) (data : List Byte) : List Byte :=
  frameOf cmd data (crc16 seed (cmd :: data))

/-- The loop of `decode_frame` after the leading SOH (44 R351): the body before the first unescaped EOT; none if the frame is
malformed. What follows that EOT is ignored. -/
def unescape : List Byte → Option (List Byte)
  | [] => none
  | [x] => if x = dle then none else if x = eot then some [] else none
  | x :: y :: rest =>
    if x = dle then (unescape rest).map (y :: ·)
    else if x = eot then some []
    else if x = soh then none
    else (unescape (y :: rest)).map (x :: ·)

/-- A body of at least a command and the two CRC bytes (44 R351): the command, the data and the CRC received, high byte
last. -/
def openBody : List Byte → Option (Byte × List Byte × Half)
  | [] => none
  | cmd :: more =>
    let n := more.length - 2
    if more.length < 2 then none else some (cmd, more.take n, more.getD (n + 1) 0 ++ more.getD n 0)

/-- What `decode_frame` reads of a frame before it tests the CRC (44 R351); none if the frame is malformed. -/
def frameParts : List Byte → Option (Byte × List Byte × Half)
  | [] => none
  | x :: rest => if x = soh then (unescape rest).bind openBody else none

/-- The value of `decode_frame(bytes)` (44 R351): none is the empty reply. -/
def decodeFrame (seed : Half) (bytes : List Byte) : Option (Byte × List Byte) :=
  match frameParts bytes with
  | some (cmd, data, c) => if crc16 seed (cmd :: data) = c then some (cmd, data) else none
  | none => none

end Sys2Proof.Machine
end

