-- ==== Sys2Proof/Machine/Etap.lean ====
section
/-! DEFINITION. The ETAP instructions (42_etap.md R220 to R240). -/

namespace Sys2Proof.Machine

/-- `ETAP_CONTROL` (42 R221): the Control register; every update is an `ecr_write`. -/
def execEtapControl (s : State) : Result :=
  tapInstr s.cfg.codes.etapControl id captureControl (fun s => ecrWrite (ofBits s.cfg.ecrLen s.drShift) s) s

/-- `ETAP_DATA` (42 R222): the Data register. -/
def execEtapData (s : State) : Result :=
  tapInstr s.cfg.codes.etapData id captureData (fun s => .next (s.setEjData (ofBits 32 s.drShift))) s

/-- The FastData transfer (42 R240): a load is handed the word, and the access is completed. -/
def fastdataTransfer (w : Word) (s : State) : State :=
  match s.cpu.pending with
  | some a => completeAccess (if a.kind = .load then s.setEjData w else s)
  | none => s

/-- The FastData update (42 R240): a transfer if one was captured and a 0 is shifted into the synchronisation bit;
otherwise the word is lost and `ejData` becomes any value. -/
def fastdataUpdate (s : State) : State :=
  if s.fdCapt && !(fastdataParts s.drShift).1 then fastdataTransfer (fastdataParts s.drShift).2 s
  else (s.setEjData (Config.free 32 s.draws)).bump

/-- `ETAP_FASTDATA` (42 R223, R240). -/
def execEtapFastdata (s : State) : Result :=
  tapInstr s.cfg.codes.etapFastdata id captureFastdata (fun s => .next (fastdataUpdate s)) s

/-- `ETAP_EJTAGBOOT` (42 R224): arm debug boot; the data register is BYPASS. -/
def execEtapEjtagboot (s : State) : Result :=
  tapInstr s.cfg.codes.etapEjtagboot (State.setEjtagBoot true) captureBypass noUpdate s

/-- `ETAP_IDCODE` (42 R225), admitted only under `ADMIT_GK_FORMS`. -/
def execEtapIdcode (s : State) : Result :=
  ifAdmitted s.cfg.codes.etapIdcode
    (tapInstr s.cfg.codes.etapIdcode id (captureWord s.cfg.etapIdcode) noUpdate) s

/-- `ETAP_IMPCODE` (42 R226), admitted only under `ADMIT_GK_FORMS`. -/
def execEtapImpcode (s : State) : Result :=
  ifAdmitted s.cfg.codes.etapImpcode
    (tapInstr s.cfg.codes.etapImpcode id (captureWord s.cfg.impcode) noUpdate) s

/-- `ETAP_ADDRESS` (42 R227), admitted only under `ADMIT_GK_FORMS`; read-only. -/
def execEtapAddress (s : State) : Result :=
  ifAdmitted s.cfg.codes.etapAddress
    (tapInstr s.cfg.codes.etapAddress id captureAddress noUpdate) s

/-- `ETAP_NORMALBOOT` (42 R228), admitted only under `ADMIT_GK_FORMS`: disarm debug boot. -/
def execEtapNormalboot (s : State) : Result :=
  ifAdmitted s.cfg.codes.etapNormalboot
    (tapInstr s.cfg.codes.etapNormalboot (State.setEjtagBoot false) captureBypass noUpdate) s

/-- The `ETAP_ALL` update (42 R229): 42 R230 on the Control part and 42 R222 on the Data part. The rule gives no order of
the two, and a draw chooses it: it decides which Data value a completed access delivers (DESIGN CHOICE, log 14). -/
def allUpdate (s : State) : Result :=
  let v := ofBits s.cfg.ecrLen (allPart s.cfg .control s.cfg.allOrder s.drShift)
  let w := ofBits 32 (allPart s.cfg .data s.cfg.allOrder s.drShift)
  match ecrFault s.cfg.ecrLayout v with
  | some f => .fault f
  | none =>
    if (Config.free 1 s.draws).getLsbD 0 then .next (ecrApply v (s.bump.setEjData w))
    else .next ((ecrApply v s.bump).setEjData w)

/-- `ETAP_ALL` (42 R229), admitted only under `ADMIT_GK_FORMS`. -/
def execEtapAll (s : State) : Result :=
  ifAdmitted s.cfg.codes.etapAll (tapInstr s.cfg.codes.etapAll id captureAll allUpdate) s

end Sys2Proof.Machine
end

