-- ==== Sys2Proof/Machine/Mchp.lean ====
section
/-! DEFINITION. The Microchip commands (41_mtap.md R190 to R199): each meaning is what the command does at the Update-DR of a
scan under MTAP_COMMAND. -/

namespace Sys2Proof.Machine

/-- `MCHP_STATUS` (41 R190): no action; the reply is the status byte captured before. -/
def execMchpStatus (s : State) : Result := .next s

/-- `MCHP_ASSERT_RST` (41 R191, R199). -/
def execMchpAssertRst (s : State) : Result :=
  unlessProtected .assertRst (fun s => .next (voidReply (assertReset s))) s

/-- The release of the device reset (41 R192): nothing if it is not asserted. -/
def releaseReset (s : State) : State :=
  if s.mtap.devRst then cpuResetExit (s.setMtap { s.mtap with devRst := false }) else s

/-- `MCHP_DEASSERT_RST` (41 R192, R199). -/
def execMchpDeassertRst (s : State) : Result :=
  unlessProtected .deassertRst (fun s => .next (voidReply (releaseReset s))) s

/-- The start of an erase (41 R193). -/
def startErase (s : State) : State :=
  (s.setFlash { s.flash with eraseRunning := true }).setMtap { s.mtap with fcBusy := true, cfgRdy := false }

/-- `MCHP_ERASE` (41 R193): while an erase is running a draw chooses between no effect and a restart, and FCBUSY is 1
either way. -/
def execMchpErase (s : State) : Result :=
  if s.flash.eraseRunning then
    let t := s.bump
    if (Config.free 1 s.draws).getLsbD 0 then .next (voidReply (startErase t))
    else .next (voidReply (t.setMtap { t.mtap with fcBusy := true }))
  else .next (voidReply (startErase s))

/-- `MCHP_FLASH_ENABLE` (41 R194, R199, R207): code protection is checked before the family (60 R374). -/
def execMchpFlashEnable (s : State) : Result :=
  unlessProtected .flashEnable
    (fun s =>
      if s.cfg.family = .mz then .fault .mzFlashEnable
      else .next (voidReply (s.setMtap { s.mtap with faen := true }))) s

/-- `MCHP_FLASH_DISABLE` (41 R195, R199). -/
def execMchpFlashDisable (s : State) : Result :=
  unlessProtected .flashDisable
    (fun s =>
      if s.cfg.family = .mz then .fault .mzFlashDisable
      else .next (voidReply (s.setMtap { s.mtap with faen := false }))) s

end Sys2Proof.Machine
end

