-- ==== Sys2Proof/Machine/Mtap.lean ====
section
/-! DEFINITION. The MTAP instructions, the two switch instructions and BYPASS (41_mtap.md R180 to R184). -/

namespace Sys2Proof.Machine

/-- `SW_MTAP` (41 R180): select the Microchip TAP; the data register is BYPASS. -/
def execSwMtap (s : State) : Result :=
  tapInstr s.cfg.codes.swMtap (State.setTapSel .mtap) captureBypass noUpdate s

/-- `SW_ETAP` (41 R181): select the EJTAG TAP; the data register is BYPASS. -/
def execSwEtap (s : State) : Result :=
  tapInstr s.cfg.codes.swEtap (State.setTapSel .etap) captureBypass noUpdate s

/-- `MTAP_IDCODE` (41 R182): the read-only IDCODE register. -/
def execMtapIdcode (s : State) : Result :=
  tapInstr s.cfg.codes.mtapIdcode id (captureWord s.cfg.deviceIdcode) noUpdate s

/-- `mchp_exec(op)` (41 R183, R197): the command in the shift register, or the fault of an unlisted one. -/
def mchpExec (s : State) : Result :=
  let v := ofBits 8 s.drShift
  match decodeMchp s.cfg.codes v with
  | .ok .mchpStatus => execMchpStatus s
  | .ok .mchpAssertRst => execMchpAssertRst s
  | .ok .mchpDeassertRst => execMchpDeassertRst s
  | .ok .mchpErase => execMchpErase s
  | .ok .mchpFlashEnable => execMchpFlashEnable s
  | .ok .mchpFlashDisable => execMchpFlashDisable s
  | .ok .mtapIdcode | .ok .swMtap | .ok .swEtap | .ok .mtapCommand | .ok .bypass | .ok .etapIdcode
  | .ok .etapImpcode | .ok .etapAddress | .ok .etapData | .ok .etapControl | .ok .etapAll
  | .ok .etapEjtagboot | .ok .etapNormalboot | .ok .etapFastdata => .fault (.undefinedMchpCmd v)
  | .error _ => .fault (.undefinedMchpCmd v)

/-- `MTAP_COMMAND` (41 R183): the command register captures the status byte and executes what is shifted in. -/
def execMtapCommand (s : State) : Result :=
  tapInstr s.cfg.codes.mtapCommand id captureStatus mchpExec s

/-- `BYPASS` (41 R184), admitted only under `ADMIT_GK_FORMS`. -/
def execBypass (s : State) : Result :=
  ifAdmitted s.cfg.codes.bypass (tapInstr s.cfg.codes.bypass id captureBypass noUpdate) s

end Sys2Proof.Machine
end

