-- ==== Sys2Proof/Machine/Dispatch.lean ====
section
/-! DEFINITION. The dispatch: one arm per instruction of opcode_table.json. A TAP instruction's meaning is its action in the TAP
state the machine is in; a command's is its action at Update-DR. -/

namespace Sys2Proof.Machine

/-- The meaning of each instruction (40 R150 to R156, 41, 42). -/
def exec (i : Instr) (s : State) : Host.Outcome State Fault Refusal :=
  match i with
  | .mtapIdcode => Sys2Proof.Machine.execMtapIdcode s
  | .swMtap => Sys2Proof.Machine.execSwMtap s
  | .swEtap => Sys2Proof.Machine.execSwEtap s
  | .mtapCommand => Sys2Proof.Machine.execMtapCommand s
  | .bypass => Sys2Proof.Machine.execBypass s
  | .etapIdcode => Sys2Proof.Machine.execEtapIdcode s
  | .etapImpcode => Sys2Proof.Machine.execEtapImpcode s
  | .etapAddress => Sys2Proof.Machine.execEtapAddress s
  | .etapData => Sys2Proof.Machine.execEtapData s
  | .etapControl => Sys2Proof.Machine.execEtapControl s
  | .etapAll => Sys2Proof.Machine.execEtapAll s
  | .etapEjtagboot => Sys2Proof.Machine.execEtapEjtagboot s
  | .etapNormalboot => Sys2Proof.Machine.execEtapNormalboot s
  | .etapFastdata => Sys2Proof.Machine.execEtapFastdata s
  | .mchpStatus => Sys2Proof.Machine.execMchpStatus s
  | .mchpAssertRst => Sys2Proof.Machine.execMchpAssertRst s
  | .mchpDeassertRst => Sys2Proof.Machine.execMchpDeassertRst s
  | .mchpErase => Sys2Proof.Machine.execMchpErase s
  | .mchpFlashEnable => Sys2Proof.Machine.execMchpFlashEnable s
  | .mchpFlashDisable => Sys2Proof.Machine.execMchpFlashDisable s

end Sys2Proof.Machine
end

