-- ==== Sys2Proof/Machine/Tap.lean ====
section
/-! DEFINITION. The TAP controller: one TCK cycle (40_tap_fsm.md R150) and the scan as one operation (40 R160). -/

namespace Sys2Proof.Machine

/-- Fetch and run: the instruction that the selected TAP decodes from a code, or the refusal of 30 R120 and 40 R151. -/
def runCode (v : IrCode) (s : State) : Result :=
  match decodeIr s.cfg.codes s.tapSel v with
  | .ok i => exec i s
  | .error _ => .refused (.unmodelledIr s.tapSel v)

/-- The action of the state a cycle leaves (40 R150). -/
def tapAction (tdi : Bool) (s : State) : Result :=
  match s.tapState with
  | .tlr => .next (tlrActions s)
  | .cir => .next (captureIr s)
  | .sir => .next { s with irShift := shiftIr tdi s.irShift }
  | .uir => runCode s.irShift.code s
  | .cdr => runCode s.ir s
  | .sdr => .next { s with drShift := shiftDr tdi s.drShift }
  | .udr => runCode s.ir s
  | .rti | .sds | .sis | .e1d | .pdr | .e2d | .e1i | .pir | .e2i => .next s

/-- A refused Update-IR has latched the code (40 R156); every other stop changes nothing but the mark (60 R370, R371). -/
def refuseAction (r : Refusal) (s : State) : State :=
  if s.tapState = .uir then (s.latchIr s.irShift.code).refuse r else s.refuse r

/-- `tck(tms, tdi)` without its TDO bit (40 R150): the action, then the move of the state machine. -/
def tck (tms tdi : Bool) (s : State) : State :=
  match tapAction tdi s with
  | .next t => { t with tapState := TapState.next s.tapState tms }
  | .fault f => s.mark f
  | .refused r => refuseAction r s

/-- TDO before the shift (40 R150): defined in Shift-IR and Shift-DR only. -/
def State.tdo (s : State) : Option Bool :=
  match s.tapState with
  | .sir => some (s.irShift.b0)
  | .sdr => some (s.drShift.headD false)
  | .tlr | .rti | .sds | .cdr | .e1d | .pdr | .e2d | .udr | .sis | .cir | .e1i | .pir | .e2i | .uir => none

/-- The host records a TDO bit; where TDO carries no defined value it records a draw (40 R150). -/
def recordTdo (b : Option Bool) (s : State) : State :=
  match b with
  | some b => s.setHost { s.host with rx := s.host.rx ++ [b] }
  | none =>
    (s.setHost { s.host with rx := s.host.rx ++ [(Config.free 1 s.draws).getLsbD 0] }).bump

/-- One TCK cycle of the host (30 R100, 40 R150): the bit sampled is the one before the action. A cycle that faults or is
refused gives no bit (60 R375). -/
def cycle (c : Cycle) (s : State) : State :=
  let t := tck c.tms c.tdi s
  if t.unmarked && c.rd then recordTdo s.tdo t else t

/-- A run of cycles with no other agent's turn between them; a mark stops it. -/
def cycles : List Cycle → State → State
  | [], s => s
  | c :: cs, s =>
    let t := cycle c s
    if t.unmarked then cycles cs t else t

end Sys2Proof.Machine
end

