-- ==== Sys2Proof/Machine/HostOps.lean ====
section
/-! DEFINITION. The host agent: its operations expand into scans, tests and assignments (43_host_sequences.md), the scans into TCK
cycles (30_encoding.md R101), and one task is done in one step (20_memory.md R83). -/

namespace Sys2Proof.Machine

/-! ## The session -/

/-- Tasks to do before the rest. -/
def State.push (ts : List HostTask) (s : State) : State :=
  s.setHost { s.host with todo := ts ++ s.host.todo }

/-- `fatal(E)` (60 R372): nothing is left to do but, where a session is open, its close (43 R304). -/
def State.fatal (e : Diagnostic) (s : State) : State :=
  s.setHost { s.host with fatal := some e, todo := if s.host.isOpen then [.op .sessionClose] else [] }

/-- The transport fails (43 R283, 60 R372): a host that has something left to do, and has not ended the session already,
ends it (DEDUCED, log 29). -/
def transportFails (s : State) : State :=
  if s.host.fatal = none ∧ s.host.todo ≠ [] then s.fatal .transport else s

/-- A non-fatal diagnostic (60 R373). -/
def State.logged (e : LogEntry) (s : State) : State :=
  s.setHost { s.host with log := s.host.log ++ [e] }

/-! ## Words of the sequences -/

def hi16 (a : Word) : Half := a.extractLsb' 16 16

def lo16 (a : Word) : Half := a.extractLsb' 0 16

/-- The MIPS words of 30 R119, opaque data to the block. -/
def luiA0 (h : Half) : Word := 0x3C040000 ||| h.setWidth 32
def oriA0 (h : Half) : Word := 0x34840000 ||| h.setWidth 32
def luiA2 (h : Half) : Word := 0x3C060000 ||| h.setWidth 32
def oriA2 (h : Half) : Word := 0x34C60000 ||| h.setWidth 32
def swA2 : Word := 0xAC860000
def addiuA0 : Word := 0x24840004
def luiT9 (h : Half) : Word := 0x3C190000 ||| h.setWidth 32
def oriT9 (h : Half) : Word := 0x37390000 ||| h.setWidth 32
def jrT9 : Word := 0x03200008
def mipsNop : Word := 0x00000000

/-- The code of a Programming Executive operation (30 R118). -/
def peCode (c : PeCodes) : PeOp → Half
  | .rowProgram => c.rowProgram
  | .read => c.read
  | .wordProgram => c.wordProgram
  | .execVersion => c.execVersion
  | .getCrc => c.getCrc
  | .quadWordProgram => c.quadWordProgram
  | .doubleWordProgram => c.doubleWordProgram

/-- A command or response word `{opcode, low half}` (30 R117). -/
def peWord (opcode low : Half) : Word := opcode ++ low

/-- The FastData value that sends a word: `zext_33(w) << 1` (20 R74). -/
def fastdataValue (w : Word) : ScanWord := w.setWidth 64 <<< 1

/-- The code of a command (30 R111). -/
def mchpCode (c : Codes) : MchpOp → Byte
  | .status => c.mchpStatus
  | .assertRst => c.mchpAssertRst
  | .deassertRst => c.mchpDeassertRst
  | .erase => c.mchpErase
  | .flashEnable => c.mchpFlashEnable
  | .flashDisable => c.mchpFlashDisable

/-- The code of a switch instruction (43 R284). -/
def switchCode (c : Codes) : Tap → IrCode
  | .mtap => c.swMtap
  | .etap => c.swEtap

/-- A command overwrites the whole buffer, and before its reply nothing is known of the bytes (10 R41; DESIGN CHOICE,
log 12): a draw of 64 bytes. -/
@[irreducible] def ReplyBuffer.fresh (k : Nat) : ReplyBuffer where
  bytes := .ofFn fun i => (Config.free 512 k).extractLsb' (8 * i.val) 8
  len := 0

/-- The reply of the command stands in the first bytes; it is cut off at 64 (10 R41). -/
@[irreducible] def ReplyBuffer.write (bs : List Byte) (r : ReplyBuffer) : ReplyBuffer where
  bytes := .ofFn fun i => bs.getD i.val r.bytes[i]
  len := min bs.length 64

/-- A command begins: the reply of the one before is not retained (10 R41). -/
def State.newCommand (s : State) : State := (s.setHost { s.host with reply := .fresh s.draws }).bump

/-- The command's reply is in the buffer. -/
def State.replied (bs : List Byte) (s : State) : State := s.setHost { s.host with reply := s.host.reply.write bs }

/-- The bytes of a scan's bits, lowest first: what the reply buffer takes (10 R41). -/
def replyBytes (bits : List Bool) : List Byte :=
  (List.range ((bits.length + 7) / 8)).map fun k => ofBits 8 ((bits.drop (8 * k)).take 8)

/-- The program operation a family must use (43 R323, 00 R6 `WIDE_PROGRAM`). -/
def requiredProgram (cfg : Config) : PeOp :=
  match cfg.wideProgram.find? (fun r => r.1 == cfg.family) with
  | some (_, .double) => .doubleWordProgram
  | some (_, .quad) => .quadWordProgram
  | some (_, .single) | none => .wordProgram

/-! ## Expansions -/

/-- A scan as tasks (40 R160). -/
def scanTasks (lead : List Bool) (n : Nat) (v : ScanWord) (rd : Bool) : List HostTask :=
  (scanCycles lead n v rd).map .cycle ++ if rd then [.endScan] else []

/-- `xfer_instruction` and `get_pe_response` around their Data scan (43 R287, R288). A Control scan carries the `ECR_LEN` bits
of the register, 32 by default (30 R124; DEDUCED, log 33). -/
def handshake (cfg : Config) (dataScan : List HostTask) : List HostTask :=
  [.op (.ir cfg.codes.etapControl), .poll 0, .op (.ir cfg.codes.etapData)] ++ dataScan
    ++ [.op (.ir cfg.codes.etapControl), .op (.dr cfg.ecrLen (releaseWord cfg.ecrLayout) false)]

/-- The bootstrap, with the source's step numbers (43 R300). -/
def bootstrap (cfg : Config) : List HostTask :=
  -- 1
  [.op (.selectTap .mtap), .op (.ir cfg.codes.mtapCommand), .op (.mchpCommand .status), .checkCps,
  -- 2
    .op (.mchpCommand .assertRst),
  -- 3
    .op (.selectTap .etap), .op (.ir cfg.codes.etapEjtagboot),
  -- 4
    .op (.selectTap .mtap), .op (.ir cfg.codes.mtapCommand), .op (.mchpCommand .deassertRst),
    .op (.mchpCommand .status), .checkStatusOk]
  -- 5
    ++ (if cfg.family = .mz then [] else [.op (.mchpCommand .flashEnable)])
  -- 6
    ++ [.op (.selectTap .etap), .setSerial]

/-- The quadruples of step 2 of the loader (43 R310): one for each pair of halfwords. N is even; a last
halfword without a partner is not sent (DESIGN CHOICE, log 34). -/
def loaderQuads : List Half → List HostTask
  | h :: l :: rest =>
    [.op (.xferInstruction (luiA2 h)), .op (.xferInstruction (oriA2 l)), .op (.xferInstruction swA2),
      .op (.xferInstruction addiuA0)] ++ loaderQuads rest
  | [_] => []
  | [] => []

/-- `load_executive` after its checks, with the source's step numbers (43 R310). LOADER_ADDR and PE_LOAD_ADDR are sent as
they are, with no alignment check (DESIGN CHOICE, log 34). -/
def loadTasks (cfg : Config) : List HostTask :=
  -- 1
  (if cfg.family = .mz ∨ cfg.family = .mm then [] else cfg.bmxSetup.map fun w => .op (.xferInstruction w))
  -- 2
    ++ [.op (.xferInstruction (luiA0 (hi16 cfg.loaderAddr))), .op (.xferInstruction (oriA0 (lo16 cfg.loaderAddr)))]
    ++ loaderQuads cfg.loader
  -- 3
    ++ [.op (.xferInstruction (luiT9 (hi16 cfg.loaderAddr))), .op (.xferInstruction (oriT9 (lo16 cfg.loaderAddr))),
      .op (.xferInstruction jrT9), .op (.xferInstruction mipsNop)]
  -- 4
    ++ [.op .fastdataSelect, .op (.fastdataWrite cfg.peLoadAddr),
      .op (.fastdataWrite (BitVec.ofNat 32 cfg.pe.length))]
  -- 5
    ++ cfg.pe.map (fun w => .op (.fastdataWrite w))
  -- 6
    ++ [.op (.fastdataWrite 0x00000000), .op (.fastdataWrite 0xDEAD0000), .op .peVersionCheck, .setExecutive]

/-- The rows of a block: `k` words each (43 R328); `fuel` is at least the number of words. A shorter last row
stays as it is (DESIGN CHOICE, log 18). -/
def rowsOf (k : Nat) : Nat → List Word → List (List Word)
  | 0, _ => []
  | _ + 1, [] => []
  | fuel + 1, w :: ws => (w :: ws).take k :: rowsOf k fuel ((w :: ws).drop k)

/-- The row programs of a block: a row of all ones is skipped (43 R328). -/
def rowTasks (k : Nat) : Word → List (List Word) → List HostTask
  | _, [] => []
  | addr, row :: rows =>
    (if row.all (· == 0xFFFFFFFF) then [] else [.op (.peRowProgram addr row)])
      ++ rowTasks k (addr + BitVec.ofNat 32 (4 * k)) rows

/-- `crc16(seed, bytes)` (44 R343): the unit's operations on the register `crc`, which holds the result after them. -/
def crcTasks (seed : Half) (bytes : List Byte) : List HostTask :=
  .op (.crcInit seed) :: bytes.map fun b => .op (.crcByte b)

/-- The empty reply to a frame (44 R351): fatal for a caller that needs the reply. -/
def State.emptyReply (needed : Bool) (s : State) : State :=
  let s' := s.setHost { s.host with received := none }
  if needed then s'.fatal .frame else s'

/-- A good frame (44 R351): its command and data are returned, and stand in the reply buffer as far as it holds them (10 R41;
DESIGN CHOICE, log 12). -/
def State.frameReply (cmd : Byte) (data : List Byte) (s : State) : State :=
  (s.setHost { s.host with received := some (cmd, data) }).replied (cmd :: data)

/-! ## Operations -/

/-- A word operation of the Programming Executive: the precondition (43 R320), the alignment (20 R77, 43 R322 to
R324; DEDUCED, log 19), then the transaction. `program_block` and `verify_block` are not checked here (DESIGN CHOICE,
log 37). -/
def peAligned (align : Nat) (addr : Word) (ts : List HostTask) (s : State) : State :=
  if !s.host.useExecutive then s.refuse .hostPrecondition
  else if addr.toNat % align ≠ 0 then s.refuse .misaligned
  else s.push ts

/-- One operation of the host (43; 44 R340, R351). A refused operation changes nothing but the mark (60 R371, R374). Every
`crc16` runs on the register `crc` (44 R343). `program_block` refuses a misaligned address only at the first row it sends, and
`verify_block` never (DESIGN CHOICE, log 37). `session_open` in an open session is not refused and starts the session anew
(DESIGN CHOICE, log 38). `pe_row_program` sends the words of its row, however many they are (DESIGN CHOICE, log 40).
`session_close` keeps the flags and the selection, and an operation runs with no session open as in an open one (DESIGN CHOICE,
log 42). -/
def runOp (o : HostOp) (s : State) : State :=
  match o with
  | .scan lead n v rd =>
    if 64 < n then s.refuse .scanTooLong
    else (s.newCommand.setHost { s.newCommand.host with rx := [] }).push (scanTasks lead n v rd)
  | .tapReset => s.push [.op (.scan tapResetLead 0 0 false), .forget]
  | .ir c => s.push [.op (.scan [true] 5 (c.setWidth 64) false), .noteIr c]
  | .dr n v rd => s.push [.op (.scan [] n v rd)]
  | .selectTap t => s.push [.op (.ir (switchCode s.cfg.codes t)), .noteSel t]
  | .mchpCommand op =>
    if s.host.hostSel = some .mtap ∧ s.host.hostIr = some s.cfg.codes.mtapCommand then
      s.push [.op (.dr 8 ((mchpCode s.cfg.codes op).setWidth 64) (op == .status))]
    else s.refuse .hostPrecondition
  | .readIdcode =>
    s.push [.op (.selectTap .mtap), .op (.ir s.cfg.codes.mtapIdcode), .op (.dr 32 0 true), .keepWord]
  | .xferInstruction w =>
    if s.host.hostSel = some .etap then s.push (handshake s.cfg [.op (.dr 32 (w.setWidth 64) false)])
    else s.refuse .hostPrecondition
  | .getPeResponse =>
    if s.host.hostSel = some .etap then s.push (handshake s.cfg [.op (.dr 32 0 true), .keepResponse])
    else s.refuse .hostPrecondition
  | .fastdataSelect => s.push [.op (.selectTap .etap), .op (.ir s.cfg.codes.etapFastdata)]
  | .fastdataWrite w =>
    if s.host.hostIr = some s.cfg.codes.etapFastdata ∧ s.host.hostSel = some .etap then
      s.push [.op (.dr 33 (fastdataValue w) false)]
    else s.refuse .hostPrecondition
  | .fastdataRead =>
    if s.host.hostIr = some s.cfg.codes.etapFastdata ∧ s.host.hostSel = some .etap then
      s.push [.op (.dr 33 0 true), .keepFastdata]
    else s.refuse .hostPrecondition
  | .serialExecution => if s.host.serialExecutionMode then s else s.push (bootstrap s.cfg)
  | .eraseChip =>
    s.push [.op (.selectTap .mtap), .op (.ir s.cfg.codes.mtapCommand), .op (.mchpCommand .erase), .erasePoll 0]
  | .sessionOpen =>
    (s.setHost { s.host with
      isOpen := true, useExecutive := false, serialExecutionMode := false, hostSel := none, hostIr := none
      device := none, fatal := none }).push [.op .tapReset, .op .readIdcode, .lookupDevice]
  | .sessionClose => if s.host.isOpen then s.setHost { s.host with isOpen := false } else s
  | .loadExecutive =>
    if s.cfg.family = .mk then s.refuse .mkLoader
    else s.push ((if s.host.serialExecutionMode then [] else [.op .serialExecution]) ++ loadTasks s.cfg)
  | .peCommand op operand words nresp =>
    if s.host.useExecutive then
      s.push ([.op .fastdataSelect, .op (.fastdataWrite (peWord (peCode s.cfg.peCodes op) operand))]
        ++ words.map (fun w => .op (.fastdataWrite w)) ++ [.clearResponses]
        ++ List.replicate nresp (.op .getPeResponse) ++ [.checkEcho op])
    else s.refuse .hostPrecondition
  | .peRead addr n =>
    peAligned 4 addr [.op (.peCommand .read (BitVec.ofNat 16 n) [addr] (1 + n)), .checkPeStatus, .keepData] s
  | .peWordProgram addr w => peAligned 4 addr [.op (.peCommand .wordProgram 0 [addr, w] 1), .checkPeStatus] s
  | .peDoubleWordProgram addr w0 w1 =>
    peAligned 8 addr [.op (.peCommand .doubleWordProgram 0 [addr, w0, w1] 1), .checkPeStatus] s
  | .peQuadWordProgram addr w0 w1 w2 w3 =>
    peAligned 16 addr [.op (.peCommand .quadWordProgram 0 [addr, w0, w1, w2, w3] 1), .checkPeStatus] s
  | .peRowProgram addr row =>
    peAligned 4 addr
      [.op (.peCommand .rowProgram (BitVec.ofNat 16 s.cfg.rowWords) (addr :: row) 1), .checkPeStatus] s
  | .peGetCrc addr image =>
    if s.host.useExecutive then
      s.push ([.op (.peCommand .getCrc 0 [addr, BitVec.ofNat 32 image.length] 2), .checkPeStatus]
        ++ crcTasks s.cfg.crcSeed image ++ [.compareCrc])
    else s.refuse .hostPrecondition
  | .peVersionCheck =>
    s.push [.op (.fastdataWrite (peWord s.cfg.peCodes.execVersion 0)), .clearResponses, .op .getPeResponse,
      .checkVersion]
  | .programBlock addr words =>
    if s.host.useExecutive then
      s.push (rowTasks s.cfg.rowWords addr (rowsOf s.cfg.rowWords words.length words))
    else s.refuse .hostPrecondition
  | .verifyBlock addr words =>
    if s.host.useExecutive then s.push [.op (.peGetCrc addr (words.flatMap wordBytes))]
    else s.refuse .hostPrecondition
  | .readBlock addr n =>
    if s.host.useExecutive then s.push [.op (.peRead addr n)] else s.refuse .hostPrecondition
  | .crcInit seed => { s with crc := seed }
  | .crcByte b => { s with crc := crcByte s.crc b }
  | .crcResult => s.setHost { s.host with word := s.crc.setWidth 32 }
  | .crc16 seed bytes => s.push (crcTasks seed bytes ++ [.op .crcResult])
  | .encodeFrame cmd data => s.push (crcTasks s.cfg.frameSeed (cmd :: data) ++ [.closeFrame cmd data])
  | .receiveFrame bytes needed =>
    match frameParts bytes with
    | some (cmd, data, c) =>
      s.newCommand.push (crcTasks s.cfg.frameSeed (cmd :: data) ++ [.checkFrame cmd data c needed])
    | none => s.newCommand.emptyReply needed

/-! ## Tasks -/

/-- One task of the host (43). -/
def runTask (t : HostTask) (s : State) : State :=
  match t with
  | .op o => runOp o s
  | .cycle c => cycle c s
  | .endScan =>
    (s.setHost { s.host with result := s.host.rx, results := s.host.results ++ [s.host.rx] }).replied
      (replyBytes s.host.rx)
  | .forget => s.setHost { s.host with hostSel := none, hostIr := none }
  | .noteIr c => s.setHost { s.host with hostIr := some c }
  | .noteSel t => s.setHost { s.host with hostSel := some t }
  | .keepWord => s.setHost { s.host with word := ofBits 32 s.host.result }
  | .lookupDevice =>
    match s.cfg.deviceTable.find? (fun e => e.key == s.host.word.setWidth 28) with
    | some e => s.setHost { s.host with device := some e }
    | none => s.fatal .unknownDevice
  | .poll i =>
    if i = s.cfg.pollMax then s.fatal .prAccNotSet
    else s.push [.op (.dr s.cfg.ecrLen (pollWord s.cfg.ecrLayout) true), .pollCheck (i + 1)]
  | .pollCheck i => if s.host.result.getD s.cfg.ecrLayout.prAcc false then s else s.push [.poll i]
  | .keepResponse =>
    let w : Word := ofBits 32 s.host.result
    s.setHost { s.host with word := w, resp := s.host.resp ++ [w] }
  | .keepFastdata =>
    s.setHost { s.host with word := ofBits 32 s.host.result.tail, sync := s.host.result.headD false }
  | .checkCps =>
    if maskedEq s.host.result (statusMask s.cfg.statusLayout.cps) 0 then s.fatal .codeProtection else s
  | .checkStatusOk => if statusOk s.cfg s.host.result then s else s.fatal .statusAfterReset
  | .setSerial => s.setHost { s.host with serialExecutionMode := true }
  | .erasePoll i =>
    if i = s.cfg.erasePollMax then s.fatal .eraseTimeout
    else s.push [.op (.mchpCommand .status), .eraseCheck (i + 1)]
  | .eraseCheck i => if eraseDone s.cfg s.host.result then s else s.push [.erasePoll i]
  | .clearResponses => s.setHost { s.host with resp := [] }
  | .checkEcho op =>
    match s.host.resp with
    | r :: _ => if hi16 r = peCode s.cfg.peCodes op then s else s.fatal .peOpcodeEcho
    | [] => s
  | .checkPeStatus =>
    match s.host.resp with
    | r :: _ => if lo16 r = 0 then s else s.fatal .peStatus
    | [] => s
  | .keepData => s.setHost { s.host with data := s.host.resp.tail }
  | .checkVersion =>
    if s.host.resp.head? = some (peWord s.cfg.peCodes.execVersion (lo16 s.cfg.peVersion)) then s
    else s.fatal .peVersion
  | .compareCrc =>
    let remote := lo16 (s.host.resp.getD 1 0)
    if remote = s.crc then s
    else
      match s.cfg.verifyPolicy with
      | .strict => s.fatal .crcMismatch
      | .warn => s.logged (.crcMismatch remote s.crc)
  | .closeFrame cmd data => s.setHost { s.host with frame := frameOf cmd data s.crc }
  | .checkFrame cmd data c needed => if s.crc = c then s.frameReply cmd data else s.emptyReply needed
  | .setExecutive => s.setHost { s.host with useExecutive := true }

/-- A turn of the host: its next task, if there is one. -/
def hostTurn (s : State) : State :=
  match s.host.todo with
  | [] => s
  | t :: rest => runTask t (s.setHost { s.host with todo := rest })

/-- A turn of the host that meets an invalid read character (43 R283): the bit a reading cycle records is a draw, the fault is
reported, and the session goes on. -/
def garbledTurn (s : State) : State :=
  match s.host.todo with
  | .cycle c :: rest =>
    if c.rd then
      let t := tck c.tms c.tdi (s.setHost { s.host with todo := rest })
      if t.unmarked then (recordTdo none t).logged .invalidReadChar else t
    else hostTurn s
  | _ => hostTurn s

end Sys2Proof.Machine
end

