-- ==== Sys2Proof/Machine/Fetch.lean ====
section
/-! DEFINITION. Turns of the agents (00_scope.md R5), and the placing of one word where the next step runs it. -/

namespace Sys2Proof.Machine

/-- One turn (00 R5). -/
def runTurn (t : Turn) (s : State) : State :=
  match t with
  | .host => hostTurn s
  | .cpu m => cpuTurn m s
  | .flash m => flashTurn m s
  | .hostGarbled => garbledTurn s
  | .transportFail => transportFails s
  | .powerOn => powerOn s

/-- The next turn: the head of the agenda, or the host's if nothing is listed. -/
def nextTurn (s : State) : State :=
  match s.agenda with
  | [] => hostTurn s
  | t :: rest => runTurn t { s with agenda := rest }

/-- The instruction that the next cycle runs, as the selected TAP decodes it (40 R150, R156): in Update-IR the code just
shifted in, in Capture-DR and Update-DR the current one. -/
def fetched (s : State) : Option (Except DecodeError Instr) :=
  match s.tapState with
  | .uir => some (decodeIr s.cfg.codes s.tapSel s.irShift.code)
  | .cdr | .udr => some (decodeIr s.cfg.codes s.tapSel s.ir)
  | .tlr | .rti | .sds | .sdr | .e1d | .pdr | .e2d | .sis | .cir | .sir | .e1i | .pir | .e2i => none

/-- A table word placed where the next step runs it: an IR code stands in the instruction shift register at Update-IR under the TAP that lists
it, a command in the shift register at Update-DR under MTAP_COMMAND; the host's next task is the cycle that leaves that state
(DESIGN CHOICE, log 17). -/
def placeWord (s : State) (w : Nat) : State :=
  let b := BitVec.ofNat 8 w
  let s' := { s with
    agenda := [], faults := [], refused := none
    host := { s.host with todo := .cycle (quiet false) :: s.host.todo } }
  match slotOf s.cfg.codes b with
  | some (.ir t, i) =>
    { s' with
      tapState := .uir, tapSel := t, irShift := .ofCode (b.setWidth 5)
      cfg := { s.cfg with admitGkForms := s.cfg.admitGkForms || i.gkOnly } }
  | some (.command, _) =>
    { s' with tapState := .udr, tapSel := .mtap, ir := s.cfg.codes.mtapCommand, drShift := bitsOf b }
  | none => { s' with tapState := .uir, irShift := .ofCode (b.setWidth 5) }

end Sys2Proof.Machine
end

