-- ==== Sys2Proof/Machine/Step.lean ====
section
/-! DEFINITION. The step (00_scope.md R5, 10_state.md R43). -/

namespace Sys2Proof.Machine

/-- One step: one turn of one agent. A state that a fault or a refusal has marked takes none (60 R370, R371). -/
def step (s : State) : Host.Outcome State Fault Refusal :=
  match s.faults, s.refused with
  | f :: _, _ => .fault f
  | [], some r => .refused r
  | [], none => .next (nextTurn s)

/-- `s` with a table word placed where the next step runs it. -/
def State.withFetchWord (s : State) (_nbits w : Nat) : State := placeWord s w

end Sys2Proof.Machine
end

