-- ==== Sys2Proof/Safety.lean ====
section
/-! DEFINITION. What the claims speak of: states without a mark, the invariant of 10_state.md R42 with the width of the shift register (10 R25,
R26) and the device reset (70 R403), and what a step leaves unchanged. -/

namespace Sys2Proof.Machine

/-- The TAP states between Capture-DR and Update-DR, where the shift register has a meaning (10 R25). -/
def inDrScan : TapState → Bool
  | .sdr | .e1d | .pdr | .e2d | .udr => true
  | .tlr | .rti | .sds | .cdr | .sis | .cir | .sir | .e1i | .pir | .e2i | .uir => false

/-- In a data scan the shift register is as long as the register the current instruction selects (10 R25, R26). -/
def State.ShiftWidth (s : State) : Prop :=
  inDrScan s.tapState = true →
    ∃ i, decodeIr s.cfg.codes s.tapSel s.ir = .ok i ∧ s.drShift.length = drWidth s.cfg i

/-- The invariant of every reachable state: 10 R42 (b), (d), (e), 70 R403, 42 R250 (an access is to debug memory), 42 R252 (before the vector
fetch no access is pending), 30 R122 (PerRst and PrRst stay 0) and 10 R25; the parameter `ALL_ORDER` orders the three registers (42 R229). 10 R42
(a) and (c) hold by definition of the views. -/
structure State.Inv (s : State) : Prop where
  pendingInDebug : s.cpu.pending ≠ none → s.cpu.mode = .debug
  pendingAddr : ∀ a, s.cpu.pending = some a → s.ejAddr = a.addr ∧ inDmseg s.cfg a.addr = true
  busyIffErasing : s.mtap.fcBusy = s.flash.eraseRunning
  resetHolds : s.mtap.devRst = true → s.cpu.mode = .reset
  vectorInDebug : s.cpu.atVector = true → s.cpu.mode = .debug ∧ s.cpu.pending = none
  noResetRequest : s.ecr.perRst = false ∧ s.ecr.prRst = false
  shiftWidth : s.ShiftWidth
  orderOfThree : allOrderLegal s.cfg.allOrder = true

/-- `t` is `s` but for the shift register, `fdCapt` and the number of draws: all that a Capture-DR may write (40 R151). -/
def CaptureOnly (s t : State) : Prop :=
  ∃ bits b k, t = { s with drShift := bits, fdCapt := b, draws := k }

/-- `t` is `s` but for the number of draws and, if the host has gathered an 8-bit reply, the value of that reply, which is any value (41
R196). -/
def ReplyVoided (s t : State) : Prop :=
  ∃ bits k, t = { s with host := { s.host with rx := bits }, draws := k } ∧
    (s.host.rx.length ≠ 8 → bits = s.host.rx) ∧ bits.length = s.host.rx.length

/-- The CPU after a Control write: where it leaves `prAcc` at 0 a pending access is completed with `w` in the Data register, a fetch or a load
being handed `w` and a store nothing (42 R230, R231). -/
def cpuAfterControl (prAcc : Bool) (w : Word) (c : Cpu) : Cpu :=
  match prAcc, c.pending with
  | true, _ => c
  | false, none => c
  | false, some a =>
    match a.kind with
    | .store => { c with pending := none }
    | .fetch | .load => { c with pending := none, delivered := c.delivered ++ [w] }

/-- CPS is known and set: the device is configured and not code-protected (10 R30). -/
def Configured (s : State) : Prop := s.mtap.cpsKnown = true ∧ s.mtap.cps = true

/-- `s` with CPS known and set. -/
def unprotected (s : State) : State := { s with mtap := { s.mtap with cps := true, cpsKnown := true } }

/-- At `s` the command does what it does with CPS known and set, but that CPS stays as it is in `s` and the reply is any value. -/
def AsUnprotected (i : Instr) (s : State) : Prop :=
  (∀ f, exec i (unprotected s) = .fault f → exec i s = .fault f) ∧
  ∀ t, exec i (unprotected s) = .next t →
    ∃ u, exec i s = .next u ∧
      ReplyVoided { t with mtap := { t.mtap with cps := s.mtap.cps, cpsKnown := s.mtap.cpsKnown } } u

/-- The host is about to move, with task `t` first and `rest` after it, in a state without a mark. -/
def AboutTo (t : HostTask) (rest : List HostTask) (s : State) : Prop :=
  s.faults = [] ∧ s.refused = none ∧ s.agenda = [] ∧ s.host.todo = t :: rest

/-- `s` with `rest` left to do: the state in which the host's first task is done. -/
def popped (rest : List HostTask) (s : State) : State := { s with host := { s.host with todo := rest } }

/-- `s` at an agent's turn: a state without a mark whose agenda begins with `t`. -/
def TurnOf (t : Turn) (rest : List Turn) (s : State) : Prop :=
  s.faults = [] ∧ s.refused = none ∧ s.agenda = t :: rest

end Sys2Proof.Machine
end

