-- ==== Sys2Proof/Certificates/Slice0/Obligations.lean ====
section
/-! DEFINITION. The statements for the provers, from the numbered rules of spec/. An instruction's meaning is stated in each TAP state in which it
acts: Update-IR (`uir`), Capture-DR (`cdr`) and Update-DR (`udr`). -/

open Sys2Proof Sys2Proof.Machine

/-! ## TAP instructions -/

/-- 41 R180, R181: the switch instructions select their TAP at Update-IR, then capture 0 into a 1-bit register and update nothing; both
TAPs decode their codes; nothing else changes. -/
def Obligations.SwitchInstructionsSelectTheirTap : Prop :=
  (∀ t, decodeIr defaultCodes t 0x04 = .ok .swMtap ∧ decodeIr defaultCodes t 0x05 = .ok .swEtap) ∧
  ∀ s : State,
    (s.tapState = .uir →
      exec .swMtap s = .next { s with ir := s.cfg.codes.swMtap, tapSel := .mtap } ∧
      exec .swEtap s = .next { s with ir := s.cfg.codes.swEtap, tapSel := .etap }) ∧
    (s.tapState = .cdr →
      exec .swMtap s = .next { s with drShift := [false] } ∧ exec .swEtap s = .next { s with drShift := [false] }) ∧
    (s.tapState = .udr → exec .swMtap s = .next s ∧ exec .swEtap s = .next s)

/-- 41 R182: MTAP_IDCODE captures DEVICE_IDCODE whatever the CPU's mode, and drops what is shifted in. -/
def Obligations.MtapIdcodeReadsTheDeviceIdcode : Prop :=
  decodeIr defaultCodes .mtap 0x01 = .ok .mtapIdcode ∧
  ∀ s : State,
    (s.tapState = .uir → exec .mtapIdcode s = .next { s with ir := s.cfg.codes.mtapIdcode }) ∧
    (s.tapState = .cdr → exec .mtapIdcode s = .next { s with drShift := bitsOf s.cfg.deviceIdcode }) ∧
    (s.tapState = .udr → exec .mtapIdcode s = .next s)

/-- 41 R183, R197: MTAP_COMMAND captures a status byte; at Update-DR it runs the command shifted in, or faults on an unlisted one. -/
def Obligations.MtapCommandRunsTheShiftedCommand : Prop :=
  decodeIr defaultCodes .mtap 0x07 = .ok .mtapCommand ∧
  ∀ s : State,
    (s.tapState = .uir → exec .mtapCommand s = .next { s with ir := s.cfg.codes.mtapCommand }) ∧
    (s.tapState = .cdr →
      ∃ d k, exec .mtapCommand s = .next { s with drShift := s.statusBits d, draws := k }) ∧
    (s.tapState = .udr →
      (∀ i, decodeMchp s.cfg.codes (ofBits 8 s.drShift) = .ok i → exec .mtapCommand s = exec i s) ∧
      (∀ e, decodeMchp s.cfg.codes (ofBits 8 s.drShift) = .error e →
        exec .mtapCommand s = .fault (.undefinedMchpCmd (ofBits 8 s.drShift))))

/-- 41 R184, 00 R11: BYPASS, where admitted, captures 0 into one bit and updates nothing; it is refused where not admitted. -/
def Obligations.BypassCapturesZero : Prop :=
  (∀ t, decodeIr defaultCodes t 0x1F = .ok .bypass) ∧
  ∀ s : State,
    (s.cfg.admitGkForms = true →
      (s.tapState = .uir → exec .bypass s = .next { s with ir := s.cfg.codes.bypass }) ∧
      (s.tapState = .cdr → exec .bypass s = .next { s with drShift := [false] }) ∧
      (s.tapState = .udr → exec .bypass s = .next s)) ∧
    (s.cfg.admitGkForms = false → exec .bypass s = .refused (.unmodelledIr s.tapSel s.cfg.codes.bypass))

/-- 42 R225, R226, R227, 00 R6, R11: the read-only ETAP registers, where admitted, capture their value (ADDR_LEN bits with the address of the
pending access; any value with none pending: DEDUCED, log 9) and update nothing; they are refused where not admitted. Where ADDR_LEN is not 32
the model shows the low bits of the address and leaves the bits above it open (DESIGN CHOICE, log 33). -/
def Obligations.EtapReadOnlyRegistersCapture : Prop :=
  (decodeIr defaultCodes .etap 0x01 = .ok .etapIdcode ∧ decodeIr defaultCodes .etap 0x03 = .ok .etapImpcode ∧
    decodeIr defaultCodes .etap 0x08 = .ok .etapAddress) ∧
  ∀ s : State,
    (s.cfg.admitGkForms = true →
      (s.tapState = .uir →
        exec .etapIdcode s = .next { s with ir := s.cfg.codes.etapIdcode } ∧
        exec .etapImpcode s = .next { s with ir := s.cfg.codes.etapImpcode } ∧
        exec .etapAddress s = .next { s with ir := s.cfg.codes.etapAddress }) ∧
      (s.tapState = .cdr →
        exec .etapIdcode s = .next { s with drShift := bitsOf s.cfg.etapIdcode } ∧
        exec .etapImpcode s = .next { s with drShift := bitsOf s.cfg.impcode } ∧
        ∃ (bits : List Bool) (k : Nat), exec .etapAddress s = .next { s with drShift := bits, draws := k } ∧
          bits.length = s.cfg.addrLen ∧
          (s.cpu.pending ≠ none → ∀ i, i < 32 → i < s.cfg.addrLen → bits.getD i false = s.ejAddr.getLsbD i)) ∧
      (s.tapState = .udr →
        exec .etapIdcode s = .next s ∧ exec .etapImpcode s = .next s ∧ exec .etapAddress s = .next s)) ∧
    (s.cfg.admitGkForms = false →
      exec .etapIdcode s = .refused (.unmodelledIr s.tapSel s.cfg.codes.etapIdcode) ∧
      exec .etapImpcode s = .refused (.unmodelledIr s.tapSel s.cfg.codes.etapImpcode) ∧
      exec .etapAddress s = .refused (.unmodelledIr s.tapSel s.cfg.codes.etapAddress))

/-- 42 R222: ETAP_DATA captures `ejData` and writes it with what is shifted in; no access is completed. -/
def Obligations.EtapDataMovesTheDataRegister : Prop :=
  decodeIr defaultCodes .etap 0x09 = .ok .etapData ∧
  ∀ s : State,
    (s.tapState = .uir → exec .etapData s = .next { s with ir := s.cfg.codes.etapData }) ∧
    (s.tapState = .cdr → exec .etapData s = .next { s with drShift := bitsOf s.ejData }) ∧
    (s.tapState = .udr → ∀ w : Word, s.drShift = bitsOf w → exec .etapData s = .next { s with ejData := w })

/-- 42 R224, R228, 00 R11: ETAP_EJTAGBOOT sets the flag at Update-IR, ETAP_NORMALBOOT (where admitted) clears it; both then select BYPASS. -/
def Obligations.BootInstructionsSetTheFlag : Prop :=
  ∀ s : State,
    (s.tapState = .uir →
      exec .etapEjtagboot s = .next { s with ir := s.cfg.codes.etapEjtagboot, ejtagBoot := true } ∧
      (s.cfg.admitGkForms = true →
        exec .etapNormalboot s = .next { s with ir := s.cfg.codes.etapNormalboot, ejtagBoot := false })) ∧
    (s.tapState = .cdr →
      exec .etapEjtagboot s = .next { s with drShift := [false] } ∧
      (s.cfg.admitGkForms = true → exec .etapNormalboot s = .next { s with drShift := [false] })) ∧
    (s.tapState = .udr →
      exec .etapEjtagboot s = .next s ∧ (s.cfg.admitGkForms = true → exec .etapNormalboot s = .next s)) ∧
    (s.cfg.admitGkForms = false →
      exec .etapNormalboot s = .refused (.unmodelledIr s.tapSel s.cfg.codes.etapNormalboot))

/-- 42 R221, 00 R6: ETAP_CONTROL captures the ECR_LEN bits of the Control value (`State.ecrBit`); every bit the rules leave open is a bit of some
value `d`. That PRnW, with no access pending, reads its reset value 0 until the first post after a power-on or a device reset, and is open from
then on, is the model's reading of 10 R32, 70 R402, R403 and 93 (DEDUCED, log 8). -/
def Obligations.EtapControlCapturesTheControlValue : Prop :=
  ∀ s : State,
    (s.tapState = .uir → exec .etapControl s = .next { s with ir := s.cfg.codes.etapControl }) ∧
    (s.tapState = .cdr →
      ∃ (d : BitVec s.cfg.ecrLen) (k : Nat) (bits : List Bool),
        exec .etapControl s = .next { s with drShift := bits, draws := k } ∧ bits.length = s.cfg.ecrLen ∧
        ∀ i, i < s.cfg.ecrLen → bits.getD i false = s.ecrBit d i)

/-- 10 R32, R42 (a), (b), (c): with every field at a position of its own, the Control value shows PrAcc, PRnW, Psz and DM as views of the CPU
and the stored fields as they are. -/
def Obligations.ControlValueShowsTheViews : Prop :=
  ∀ (s : State) (d : BitVec s.cfg.ecrLen), s.cfg.ecrLayout.legal s.cfg.ecrLen = true →
    let l := s.cfg.ecrLayout
    s.ecrBit d l.prAcc = s.cpu.pending.isSome ∧
    (∀ a, s.cpu.pending = some a →
      s.ecrBit d l.prnw = decide (a.kind = .store) ∧
      (a.size = .byte → s.ecrBit d l.psz = false ∧ s.ecrBit d (l.psz + 1) = false) ∧
      (a.size = .half → s.ecrBit d l.psz = true ∧ s.ecrBit d (l.psz + 1) = false) ∧
      (a.size = .word → s.ecrBit d l.psz = false ∧ s.ecrBit d (l.psz + 1) = true)) ∧
    s.ecrBit d l.dm = decide (s.cpu.mode = .debug) ∧
    s.ecrBit d l.rocc = s.ecr.rocc ∧ s.ecrBit d l.perRst = s.ecr.perRst ∧ s.ecrBit d l.prRst = s.ecr.prRst ∧
    s.ecrBit d l.probEn = s.ecr.probEn ∧ s.ecrBit d l.probTrap = s.ecr.probTrap ∧
    s.ecrBit d l.ejtagBrk = s.ecr.ejtagBrk

/-- 42 R230, R231, 10 R32, 60 R374: a Control write with PerRst = 1 or PrRst = 1 faults; any other leaves each field as its access right says
(R keeps it, RW writes it, W0 clears it by 0, W1 sets it by 1), completes the pending access exactly when it leaves PrAcc at 0, and changes
nothing else. Under the default rights: PrAcc = 0 completes, ROCC is cleared by 0, ProbEn and ProbTrap are written, EjtagBrk is set by 1. The
model's own: how 42 R230 reads under other rights (DEDUCED, log 41); PerRst and PrRst are written with the 0 the word carries (10 R32, 20 R80;
DEDUCED, log 25); with both set the fault names PerRst (DESIGN CHOICE, log 35). -/
def Obligations.ControlWriteFollowsItsFields : Prop :=
  (∀ old v : Bool, writeAs .r old v = old ∧ writeAs .rw old v = v ∧
    writeAs .w0 old v = (old && v) ∧ writeAs .w1 old v = (old || v)) ∧
  ∀ (s : State) (v : BitVec s.cfg.ecrLen), s.tapState = .udr → s.drShift = bitsOf v →
    let l := s.cfg.ecrLayout
    let a := s.cfg.ecrAccess
    (v.getLsbD l.perRst = true → exec .etapControl s = .fault (.unmodelledEcrWrite .perRst)) ∧
    (v.getLsbD l.perRst = false → v.getLsbD l.prRst = true →
      exec .etapControl s = .fault (.unmodelledEcrWrite .prRst)) ∧
    (v.getLsbD l.perRst = false → v.getLsbD l.prRst = false →
      exec .etapControl s = .next { s with
        cpu := cpuAfterControl (writeAs a.prAcc s.cpu.pending.isSome (v.getLsbD l.prAcc)) s.ejData s.cpu
        ecr := {
          rocc := writeAs a.rocc s.ecr.rocc (v.getLsbD l.rocc)
          perRst := writeAs a.perRst s.ecr.perRst false
          prRst := writeAs a.prRst s.ecr.prRst false
          probEn := writeAs a.probEn s.ecr.probEn (v.getLsbD l.probEn)
          probTrap := writeAs a.probTrap s.ecr.probTrap (v.getLsbD l.probTrap)
          ejtagBrk := writeAs a.ejtagBrk s.ecr.ejtagBrk (v.getLsbD l.ejtagBrk) } }) ∧
    (v.getLsbD l.perRst = false → v.getLsbD l.prRst = false → a = defaultEcrAccess →
      exec .etapControl s = .next { s with
        cpu := cpuAfterControl (v.getLsbD l.prAcc) s.ejData s.cpu
        ecr := {
          rocc := s.ecr.rocc && v.getLsbD l.rocc
          perRst := false
          prRst := false
          probEn := v.getLsbD l.probEn
          probTrap := v.getLsbD l.probTrap
          ejtagBrk := s.ecr.ejtagBrk || v.getLsbD l.ejtagBrk } })

/-- 42 R221, 30 R114: a write of the poll word completes no access, whatever the access rights; a write of the release word, where a 0 written
to PrAcc clears it, hands a waiting fetch the word in the Data register (42 R254). Under the default rights (10 R32) both set ProbEn and
ProbTrap and clear ROCC. Other rights are log 41 (DEDUCED). -/
def Obligations.PollKeepsAndReleaseCompletes : Prop :=
  ∀ s : State, s.tapState = .udr → s.cfg.ecrLayout.legal s.cfg.ecrLen = true →
    (s.drShift = scanBits s.cfg.ecrLen (pollWord s.cfg.ecrLayout) →
      ∃ t, exec .etapControl s = .next t ∧ t.cpu = s.cpu ∧ t.ejData = s.ejData ∧
        (s.cfg.ecrAccess = defaultEcrAccess →
          t.ecr.rocc = false ∧ t.ecr.probEn = true ∧ t.ecr.probTrap = true ∧ t.ecr.ejtagBrk = s.ecr.ejtagBrk)) ∧
    (s.drShift = scanBits s.cfg.ecrLen (releaseWord s.cfg.ecrLayout) →
      ∃ t, exec .etapControl s = .next t ∧ t.ejData = s.ejData ∧
        (s.cfg.ecrAccess.prAcc = .w0 ∨ s.cfg.ecrAccess.prAcc = .rw → t.cpu.pending = none ∧
          (∀ a, s.cpu.pending = some a → a.kind = .fetch → t.cpu.delivered = s.cpu.delivered ++ [s.ejData]) ∧
          (∀ a, s.cpu.pending = some a → a.kind = .store → t.cpu.delivered = s.cpu.delivered)) ∧
        (s.cfg.ecrAccess = defaultEcrAccess →
          t.ecr.rocc = false ∧ t.ecr.probEn = true ∧ t.ecr.probTrap = true ∧ t.ecr.ejtagBrk = s.ecr.ejtagBrk))

/-- 42 R240: FastData captures `{ejData, fdPending}`; an update with `fdCapt = 1` and a 0 in the synchronisation bit serves a pending
load with the word or ends a pending store; any other update completes nothing and leaves `ejData` at any value. -/
def Obligations.FastdataServesLoadsAndStores : Prop :=
  decodeIr defaultCodes .etap 0x0E = .ok .etapFastdata ∧
  ∀ s : State,
    (s.fdPending = true ↔ ∃ a, s.cpu.pending = some a ∧ (a.kind = .load ∨ a.kind = .store) ∧
      s.cfg.fastdataLo ≤ a.addr ∧ a.addr ≤ s.cfg.fastdataHi) ∧
    (s.tapState = .uir → exec .etapFastdata s = .next { s with ir := s.cfg.codes.etapFastdata }) ∧
    (s.tapState = .cdr →
      exec .etapFastdata s = .next { s with fdCapt := s.fdPending, drShift := s.fdPending :: bitsOf s.ejData }) ∧
    (s.tapState = .udr → ∀ (b : Bool) (w : Word), s.drShift = b :: bitsOf w →
      (s.fdCapt = true → b = false → ∀ a, s.cpu.pending = some a →
        (a.kind = .load → exec .etapFastdata s = .next { s with
          ejData := w, cpu := { s.cpu with pending := none, delivered := s.cpu.delivered ++ [w] } }) ∧
        (a.kind = .store → exec .etapFastdata s = .next { s with cpu := { s.cpu with pending := none } })) ∧
      (s.fdCapt = false ∨ b = true →
        ∃ (x : Word) (k : Nat), exec .etapFastdata s = .next { s with ejData := x, draws := k }))

/-- 42 R229, 00 R11: where admitted, ETAP_ALL captures the three registers in the order of ALL_ORDER, and its update is a Control write and
a Data write; which Data value a completed access receives is left open (DESIGN CHOICE, log 14). The Control part rests on log 8 for PRnW at the
capture, on log 25 for PerRst and PrRst, on log 35 for the field a fault names, and on log 41 for access rights
other than the defaults (DEDUCED). The Address part rests on log 9 with no access pending (DEDUCED), and on log 33 where ADDR_LEN is not 32
(DESIGN CHOICE). -/
def Obligations.EtapAllIsControlAndData : Prop :=
  ∀ s : State,
    (s.cfg.admitGkForms = true →
      (s.tapState = .uir → exec .etapAll s = .next { s with ir := s.cfg.codes.etapAll }) ∧
      (s.tapState = .cdr → ∃ (ctl : BitVec s.cfg.ecrLen) (adr : BitVec s.cfg.addrLen) (k : Nat), exec .etapAll s =
        .next { s with drShift := s.cfg.allOrder.flatMap (s.allPartBits ctl adr), draws := k }) ∧
      (s.tapState = .udr → ∀ (v : BitVec s.cfg.ecrLen) (w : Word),
        allPart s.cfg .control s.cfg.allOrder s.drShift = bitsOf v →
        allPart s.cfg .data s.cfg.allOrder s.drShift = bitsOf w →
        let l := s.cfg.ecrLayout
        let r := s.cfg.ecrAccess
        (v.getLsbD l.perRst = true → exec .etapAll s = .fault (.unmodelledEcrWrite .perRst)) ∧
        (v.getLsbD l.perRst = false → v.getLsbD l.prRst = true →
          exec .etapAll s = .fault (.unmodelledEcrWrite .prRst)) ∧
        (v.getLsbD l.perRst = false → v.getLsbD l.prRst = false →
          ∃ (x : Word) (k : Nat), (x = s.ejData ∨ x = w) ∧ exec .etapAll s = .next { s with
            ejData := w
            draws := k
            cpu := cpuAfterControl (writeAs r.prAcc s.cpu.pending.isSome (v.getLsbD l.prAcc)) x s.cpu
            ecr := {
              rocc := writeAs r.rocc s.ecr.rocc (v.getLsbD l.rocc)
              perRst := writeAs r.perRst s.ecr.perRst false
              prRst := writeAs r.prRst s.ecr.prRst false
              probEn := writeAs r.probEn s.ecr.probEn (v.getLsbD l.probEn)
              probTrap := writeAs r.probTrap s.ecr.probTrap (v.getLsbD l.probTrap)
              ejtagBrk := writeAs r.ejtagBrk s.ecr.ejtagBrk (v.getLsbD l.ejtagBrk) } }))) ∧
    (s.cfg.admitGkForms = false → exec .etapAll s = .refused (.unmodelledIr s.tapSel s.cfg.codes.etapAll))

/-! ## Microchip commands -/

/-- 10 R31: with every flag at a position of its own, the status byte shows the flags; CPS once it is known (41 R205). -/
def Obligations.StatusByteShowsTheFlags : Prop :=
  ∀ (s : State) (d : Byte), s.cfg.statusLayout.legal = true →
    let l := s.cfg.statusLayout
    let st : Byte := ofBits 8 (s.statusBits d)
    (s.mtap.cpsKnown = true → st.getLsbD l.cps = s.mtap.cps) ∧ st.getLsbD l.nvmErr = s.mtap.nvmErr ∧
    st.getLsbD l.cfgRdy = s.mtap.cfgRdy ∧ st.getLsbD l.fcBusy = s.mtap.fcBusy ∧ st.getLsbD l.faen = s.mtap.faen ∧
    st.getLsbD l.devRst = s.mtap.devRst

/-- 41 R191, 70 R403: ASSERT_RST on a configured, unprotected device holds the CPU in reset, drops the pending access and sets ROCC; nothing
else changes but an 8-bit reply, which is any value (41 R196). That the bits of a scan of another length stand is the model's reading of R196
(DEDUCED, log 21), and PRnW's return to its reset value, the bit `posted`, is log 8. That ROCC is set where the reset is asserted already is
log 39 (DESIGN CHOICE). -/
def Obligations.AssertResetHoldsTheCpu : Prop :=
  ∀ s : State, Configured s →
    ∃ t, exec .mchpAssertRst s = .next t ∧ ReplyVoided { s with
      mtap := { s.mtap with devRst := true }
      cpu := { s.cpu with mode := .reset, pending := none, atVector := false, posted := false }
      ecr := { s.ecr with rocc := true } } t

/-- 41 R192, 60 R380, R381, R383: DEASSERT_RST on a configured, unprotected device does nothing without the reset; with EJTAGBOOT armed it
enters debug mode at DMSEG_VECTOR with ProbEn = ProbTrap = 1 and EjtagBrk = 0; otherwise it starts firmware at the reset vector, or takes the
debug exception if a request is pending (the model's reading of 60 R383, log 16). The reply of a scan that is not 8 bits long stands (DEDUCED,
log 21), and `pc` is kept where the block sends the CPU (log 22). -/
def Obligations.DeassertResetLeavesReset : Prop :=
  ∀ s : State, Configured s →
    (s.mtap.devRst = false → ∃ t, exec .mchpDeassertRst s = .next t ∧ ReplyVoided s t) ∧
    (s.mtap.devRst = true → s.ejtagBoot = true →
      ∃ t, exec .mchpDeassertRst s = .next t ∧ ReplyVoided { s with
        mtap := { s.mtap with devRst := false }
        cpu := { s.cpu with mode := .debug, pc := s.cfg.dmsegVector, atVector := true }
        ecr := { s.ecr with probEn := true, probTrap := true, ejtagBrk := false } } t) ∧
    (s.mtap.devRst = true → s.ejtagBoot = false → s.ecr.ejtagBrk = false →
      ∃ t, exec .mchpDeassertRst s = .next t ∧ ReplyVoided { s with
        mtap := { s.mtap with devRst := false }
        cpu := { s.cpu with mode := .run, pc := s.cfg.resetVector, atVector := false } } t) ∧
    (s.mtap.devRst = true → s.ejtagBoot = false → s.ecr.ejtagBrk = true →
      ∃ t, exec .mchpDeassertRst s = .next t ∧ ReplyVoided { s with
        mtap := { s.mtap with devRst := false }
        cpu := { s.cpu with
          mode := .debug
          pc := if s.ecr.probTrap then s.cfg.dmsegVector else s.cfg.targetVector
          atVector := s.ecr.probTrap }
        ecr := { s.ecr with ejtagBrk := false } } t)

/-- 41 R193: ERASE starts an erase whatever CPS is, sets FCBUSY and clears CFGRDY; while one is running it restarts it or has no effect, and
FCBUSY is 1 either way. That the restart clears CFGRDY again is log 24 (DEDUCED), and that the reply of a scan that is not 8 bits long stands
is log 21 (DEDUCED). -/
def Obligations.EraseStartsWhateverCps : Prop :=
  ∀ s : State,
    (s.flash.eraseRunning = false →
      ∃ t, exec .mchpErase s = .next t ∧ ReplyVoided { s with
        flash := { s.flash with eraseRunning := true }
        mtap := { s.mtap with fcBusy := true, cfgRdy := false } } t) ∧
    (s.flash.eraseRunning = true →
      ∃ (t : State) (r : Bool), exec .mchpErase s = .next t ∧ t.flash = s.flash ∧
        ReplyVoided { s with mtap := { s.mtap with fcBusy := true, cfgRdy := s.mtap.cfgRdy && r } } t)

/-- 41 R194, R195, R207: on a configured, unprotected device of a family other than MZ the flash commands set and clear FAEN; on MZ
they fault. An 8-bit reply is any value (41 R196); that the bits of a scan of another length stand is log 21 (DEDUCED). -/
def Obligations.FlashCommandsSwitchFaen : Prop :=
  ∀ s : State, Configured s →
    (s.cfg.family ≠ .mz →
      (∃ t, exec .mchpFlashEnable s = .next t ∧ ReplyVoided { s with mtap := { s.mtap with faen := true } } t) ∧
      (∃ t, exec .mchpFlashDisable s = .next t ∧ ReplyVoided { s with mtap := { s.mtap with faen := false } } t)) ∧
    (s.cfg.family = .mz →
      exec .mchpFlashEnable s = .fault .mzFlashEnable ∧ exec .mchpFlashDisable s = .fault .mzFlashDisable)

/-- 41 R190, R199, 60 R374: under code protection the reset and flash commands fault, before the family is looked at; STATUS changes nothing
and ERASE is accepted. Before the configuration step CPS is a draw (41 R205): each of the four commands faults or does what it does on an
unprotected device (a fresh draw at each look is log 7, DESIGN CHOICE). -/
def Obligations.ProtectionStopsFourCommands : Prop :=
  (∀ s : State, s.mtap.cpsKnown = true → s.mtap.cps = false →
    exec .mchpAssertRst s = .fault (.protectedCmd .assertRst) ∧
    exec .mchpDeassertRst s = .fault (.protectedCmd .deassertRst) ∧
    exec .mchpFlashEnable s = .fault (.protectedCmd .flashEnable) ∧
    exec .mchpFlashDisable s = .fault (.protectedCmd .flashDisable) ∧
    exec .mchpStatus s = .next s ∧ ∃ t, exec .mchpErase s = .next t ∧ t.flash.eraseRunning = true) ∧
  ∀ s : State, s.mtap.cpsKnown = false →
    (exec .mchpAssertRst s = .fault (.protectedCmd .assertRst) ∨ AsUnprotected .mchpAssertRst s) ∧
    (exec .mchpDeassertRst s = .fault (.protectedCmd .deassertRst) ∨ AsUnprotected .mchpDeassertRst s) ∧
    (exec .mchpFlashEnable s = .fault (.protectedCmd .flashEnable) ∨ AsUnprotected .mchpFlashEnable s) ∧
    (exec .mchpFlashDisable s = .fault (.protectedCmd .flashDisable) ∨ AsUnprotected .mchpFlashDisable s)

/-- 41 R190: STATUS has no action, in any state; and MTAP_COMMAND at Update-DR with its code has none. -/
def Obligations.StatusCommandChangesNothing : Prop :=
  (∀ s : State, exec .mchpStatus s = .next s) ∧
  ∀ s : State, s.tapState = .udr → ofBits 8 s.drShift = s.cfg.codes.mchpStatus → exec .mtapCommand s = .next s

/-! ## What an instruction leaves unchanged -/

/-- 40 R151, R153, R156, 10 R45: a TAP instruction writes at Update-IR only `ir`, `tapSel` and `ejtagBoot`; at Capture-DR only the shift
register, `fdCapt` and draws; and at Update-DR nothing, but for the Control, Data, FastData, ALL and command registers, which never touch the
TAP controller's own registers, the parameters, `ejAddr`, `ejtagBoot` or the CRC register. -/
def Obligations.TapInstructionsChangeOnlyTheirRegisters : Prop :=
  ∀ (i : Instr) (s t : State) (v : IrCode), encode s.cfg.codes i = .ir v → exec i s = .next t →
    (s.tapState = .uir → ∃ u b, t = { s with ir := v, tapSel := u, ejtagBoot := b } ∧
      (i ≠ .swMtap → i ≠ .swEtap → u = s.tapSel) ∧ (i ≠ .etapEjtagboot → i ≠ .etapNormalboot → b = s.ejtagBoot)) ∧
    (s.tapState = .cdr → CaptureOnly s t ∧ (i ≠ .etapFastdata → t.fdCapt = s.fdCapt)) ∧
    (s.tapState = .udr →
      (i ∉ [Instr.mtapCommand, .etapControl, .etapData, .etapFastdata, .etapAll] → t = s) ∧
      t.cfg = s.cfg ∧ t.tapState = s.tapState ∧ t.irShift = s.irShift ∧ t.ir = s.ir ∧ t.tapSel = s.tapSel ∧
      t.drShift = s.drShift ∧ t.ejAddr = s.ejAddr ∧ t.fdCapt = s.fdCapt ∧ t.ejtagBoot = s.ejtagBoot ∧ t.crc = s.crc ∧
      t.faults = s.faults ∧ t.refused = s.refused ∧ t.agenda = s.agenda)

/-- 41 R180 to R199, 10 R45: a command changes at most the device's flags, the CPU's mode and access, the Control fields and the flash; it
delivers no word and leaves the TAP controller, the Data and Address registers, the boot flag, the CRC register and the session but for the
reply. -/
def Obligations.CommandsLeaveTheTapAlone : Prop :=
  ∀ (i : Instr) (s t : State) (v : Byte), encode s.cfg.codes i = .mchp v → exec i s = .next t →
    ∃ (m : Mtap) (e : Ecr) (c : Cpu) (f : Flash) (bits : List Bool) (k : Nat),
      t = { s with
        mtap := m, ecr := e, cpu := c, flash := f
        host := { s.host with rx := bits }, draws := k } ∧
      c.delivered = s.cpu.delivered ∧ (c.pending = s.cpu.pending ∨ c.pending = none) ∧ f.contents = s.flash.contents ∧
      m.nvmErr = s.mtap.nvmErr ∧ m.cps = s.mtap.cps ∧ m.cpsKnown = s.mtap.cpsKnown

/-! ## Cycles and steps -/

/-- 40 R140, R150, 60 R370, R371, R375: a step at the host's cycle runs the instruction that the selected TAP decodes, then moves the TAP state
and, for a reading cycle, records one bit (a draw: TDO is not defined outside the shift states); a fault or refusal marks the state and
changes nothing else, but that a refused Update-IR has latched the code (40 R156). -/
def Obligations.StepRunsTheDecodedInstruction : Prop :=
  ∀ (s : State) (c : Cycle) (rest : List HostTask) (i : Instr),
    AboutTo (.cycle c) rest s → fetched s = some (.ok i) →
    (∀ t, exec i (popped rest s) = .next t →
      (c.rd = false → step s = .next { t with tapState := TapState.next s.tapState c.tms }) ∧
      (c.rd = true → ∃ b k, step s = .next { t with
        tapState := TapState.next s.tapState c.tms
        host := { t.host with rx := t.host.rx ++ [b] }
        draws := k })) ∧
    (∀ f, exec i (popped rest s) = .fault f → step s = .next { popped rest s with faults := [f] }) ∧
    (∀ r, exec i (popped rest s) = .refused r →
      (s.tapState ≠ .uir → step s = .next { popped rest s with refused := some r }) ∧
      (s.tapState = .uir → step s = .next { popped rest s with ir := s.irShift.code, refused := some r }))

/-- 30 R120, 40 R151, R156: a code the selected TAP does not list is refused at Update-IR, which latches it, and at Capture-DR. -/
def Obligations.UnlistedCodeIsRefused : Prop :=
  ∀ (s : State) (c : Cycle) (rest : List HostTask) (e : DecodeError), AboutTo (.cycle c) rest s →
    fetched s = some (.error e) →
    (s.tapState = .uir → step s = .next { popped rest s with
      ir := s.irShift.code, refused := some (.unmodelledIr s.tapSel s.irShift.code) }) ∧
    (s.tapState = .cdr → step s = .next { popped rest s with refused := some (.unmodelledIr s.tapSel s.ir) })

/-- A marked state takes no step, and the step function answers its mark: the model's reading (DEDUCED, log 1) of 10 R43 (no step clears a mark)
and 60 R370, R371 (the faulted state is never final). -/
def Obligations.MarkedStateStops : Prop :=
  ∀ s : State, (∀ f fs, s.faults = f :: fs → step s = .fault f) ∧
    (∀ r, s.faults = [] → s.refused = some r → step s = .refused r)

/-- 40 R150, R152, R155: a cycle in a shift state samples the register's low bit before the shift, then moves every bit down and takes TDI
in at the top. -/
def Obligations.ShiftCyclesSampleThenShift : Prop :=
  ∀ (s : State) (c : Cycle) (rest : List HostTask), AboutTo (.cycle c) rest s →
    (∀ b bs, s.tapState = .sdr → s.drShift = b :: bs → step s = .next { popped rest s with
      drShift := bs ++ [c.tdi]
      tapState := if c.tms then .e1d else .sdr
      host := { (popped rest s).host with rx := if c.rd then s.host.rx ++ [b] else s.host.rx } }) ∧
    (s.tapState = .sir → step s = .next { popped rest s with
      irShift := ⟨s.irShift.b1, s.irShift.b2, s.irShift.b3, s.irShift.b4, c.tdi⟩
      tapState := if c.tms then .e1i else .sir
      host := { (popped rest s).host with
        rx := if c.rd then s.host.rx ++ [s.irShift.b0] else s.host.rx } })

/-- 40 R154: Capture-IR loads a value whose two low bits are 0b01; a bit recorded there is any value (40 R150). -/
def Obligations.CaptureIrLoadsZeroOne : Prop :=
  ∀ (s : State) (c : Cycle) (rest : List HostTask), AboutTo (.cycle c) rest s → s.tapState = .cir →
    ∃ (x : IrShift) (b : Bool) (k : Nat), x.b0 = true ∧ x.b1 = false ∧ step s = .next { popped rest s with
      irShift := x
      draws := k
      tapState := if c.tms then .e1i else .sir
      host := { (popped rest s).host with rx := if c.rd then s.host.rx ++ [b] else s.host.rx } }

/-- 40 R158, R150: in Run-Test/Idle, the Select, Exit and Pause states a cycle only moves the TAP state; a bit recorded there is any value. -/
def Obligations.IdleAndPauseStatesDoNothing : Prop :=
  ∀ (s : State) (c : Cycle) (rest : List HostTask), AboutTo (.cycle c) rest s →
    s.tapState ∈ [TapState.rti, .sds, .sis, .e1d, .pdr, .e2d, .e1i, .pir, .e2i] →
    ∃ (b : Bool) (k : Nat), (c.rd = false → k = s.draws) ∧ step s = .next { popped rest s with
      draws := k
      tapState := TapState.next s.tapState c.tms
      host := { (popped rest s).host with rx := if c.rd then s.host.rx ++ [b] else s.host.rx } }

/-- 70 R401, 40 R150: a cycle in Test-Logic-Reset resets `ir`, `ejtagBoot`, `fdCapt` and five Control fields, draws the selected TAP, and leaves
everything else: a pending access stays pending. A bit recorded there is any value. R401 writes 0x01, the IDCODE code of the default table; under
another table the model takes that table's IDCODE code (DESIGN CHOICE, log 4). -/
def Obligations.TestLogicResetActions : Prop :=
  ∀ (s : State) (c : Cycle) (rest : List HostTask), AboutTo (.cycle c) rest s → s.tapState = .tlr →
    ∃ (u : Tap) (b : Bool) (k : Nat), step s = .next { popped rest s with
      ir := s.cfg.codes.mtapIdcode
      tapSel := u
      ejtagBoot := false
      ecr := { rocc := s.ecr.rocc, perRst := false, prRst := false, probEn := false, probTrap := false, ejtagBrk := false }
      fdCapt := false
      draws := k
      tapState := if c.tms then .tlr else .rti
      host := { (popped rest s).host with rx := if c.rd then s.host.rx ++ [b] else s.host.rx } }

/-- 40 R141: five cycles with TMS = 1 lead from every TAP state to Test-Logic-Reset, and TMS = 1 holds it there. -/
def Obligations.FiveOnesReachTestLogicReset : Prop :=
  ∀ t : TapState, (List.replicate 5 true).foldl TapState.next t = .tlr ∧
    ∀ n, (List.replicate (5 + n) true).foldl TapState.next t = .tlr

/-! ## Scans -/

/-- 40 R161, 30 R102: an IR scan from Run-Test/Idle is the Update-IR of its code; it captures and updates no data register and returns to
Run-Test/Idle. -/
def Obligations.IrScanIsTheUpdateOfItsCode : Prop :=
  ∀ (s t : State) (c : IrCode) (i : Instr), s.unmarked = true → s.tapState = .rti →
    decodeIr s.cfg.codes s.tapSel c = .ok i →
    exec i { s with tapState := .uir, irShift := .ofCode c, draws := s.draws + 1 } = .next t →
    cycles (Scan.cycles (.ir c)) s = { t with tapState := .rti }

/-- 40 R152, R162, 20 R76: a DR scan of any length from Run-Test/Idle is a capture, the passage of its bits through the register (what comes out
is the capture followed by the bits that go through), and an update with what the register then holds. -/
def Obligations.DrScanIsCaptureShiftUpdate : Prop :=
  ∀ (s p t : State) (bits : List Bool) (rd : Bool) (i : Instr), s.unmarked = true → s.tapState = .rti →
    decodeIr s.cfg.codes s.tapSel s.ir = .ok i → bits ≠ [] →
    exec i { s with tapState := .cdr } = .next p → p.drShift ≠ [] →
    exec i { p with
      tapState := .udr
      drShift := (p.drShift ++ bits).drop bits.length
      host := { p.host with
        rx := if rd then p.host.rx ++ (p.drShift ++ bits).take bits.length else p.host.rx } } = .next t →
    cycles (Scan.cycles (.dr bits rd)) s = { t with tapState := .rti }

/-- 42 R254, R261, 43 R287: poll, Data write and release hand a waiting fetch (or load, 42 R257) the host's word, and leave no access
pending: one word is delivered, the one written. The access rights are the defaults of 10 R32. A Control scan is
ECR_LEN bits long, 32 by default (30 R124; DEDUCED, log 33). -/
def Obligations.InjectedWordIsDelivered : Prop :=
  ∀ (s : State) (w : Word) (a : Access), s.unmarked = true → s.tapState = .rti → s.tapSel = .etap →
    s.cfg.codes.legal = true → s.cfg.ecrLayout.legal s.cfg.ecrLen = true →
    s.cfg.ecrAccess = defaultEcrAccess → s.cpu.pending = some a → a.kind ≠ .store →
    let c := s.cfg.codes
    let t := cycles
      (Scan.cycles (.ir c.etapControl) ++ Scan.cycles (.dr (scanBits s.cfg.ecrLen (pollWord s.cfg.ecrLayout)) true)
        ++ Scan.cycles (.ir c.etapData) ++ Scan.cycles (.dr (bitsOf w) false)
        ++ Scan.cycles (.ir c.etapControl) ++ Scan.cycles (.dr (scanBits s.cfg.ecrLen (releaseWord s.cfg.ecrLayout)) false)) s
    t.unmarked = true ∧ t.tapState = .rti ∧ t.cpu.delivered = s.cpu.delivered ++ [w] ∧ t.cpu.pending = none ∧
      t.ejData = w ∧ t.ir = c.etapControl ∧ t.ecr.probEn = true ∧ t.ecr.probTrap = true ∧ t.ecr.rocc = false ∧
      (∃ bits, t.host.rx = s.host.rx ++ bits ∧ bits.length = s.cfg.ecrLen ∧
        bits.getD s.cfg.ecrLayout.prAcc false = true)

/-- 20 R83: with no other agent's turn, the host's steps perform its cycles in order: as many steps as cycles give what the run of cycles
gives. -/
def Obligations.StepsPerformTheCyclesInOrder : Prop :=
  ∀ (s : State) (cs : List Cycle) (rest : List HostTask), s.unmarked = true → s.agenda = [] →
    s.host.todo = cs.map .cycle ++ rest → (cycles cs (popped rest s)).unmarked = true →
    Host.Core.run Sys2Proof.core cs.length s = .next (cycles cs (popped rest s))

/-- 30 R101: the length of a scan is its lead-in and, with data, `n + 5` cycles. -/
def Obligations.ScanHasItsLength : Prop :=
  ∀ (lead : List Bool) (n : Nat) (v : ScanWord) (rd : Bool),
    (scanCycles lead n v rd).length = lead.length + if n = 0 then 0 else n + 5

/-! ## Encodings -/

/-- 30 R110, R111: words written out from the tables decode to the instructions they stand for. -/
def Obligations.TableWordsDecode : Prop :=
  decodeIr defaultCodes .mtap 0b00001 = .ok .mtapIdcode ∧ decodeIr defaultCodes .etap 0b00001 = .ok .etapIdcode ∧
  decodeIr defaultCodes .mtap 0b00111 = .ok .mtapCommand ∧ decodeIr defaultCodes .etap 0b01010 = .ok .etapControl ∧
  decodeIr defaultCodes .etap 0b01110 = .ok .etapFastdata ∧ decodeMchp defaultCodes 0b11010001 = .ok .mchpAssertRst ∧
  decodeMchp defaultCodes 0b11111100 = .ok .mchpErase ∧
  decodeMchp defaultCodes 0x55 = .error (.unlistedCommand 0x55) ∧
  decodeIr defaultCodes .mtap 0x0A = .error (.unlistedIr .mtap 0x0A)

/-- 30 R110, R111: under every code table whose codes are distinct within one TAP, the word of an instruction decodes to it under each TAP
that lists it. -/
def Obligations.DecodeOfEncodeIsTheInstruction : Prop :=
  ∀ (c : Codes) (t : Tap) (i : Instr), c.legal = true → i.decodedBy t = true → decode c t (encode c i) = .ok i

/-- 30 R110, R120, 41 R198: under every code table, a word that decodes is the word of its instruction, and the selected TAP lists that
instruction. -/
def Obligations.EncodeOfDecodeIsTheWord : Prop :=
  ∀ (c : Codes) (t : Tap) (w : Code) (i : Instr), decode c t w = .ok i → encode c i = w ∧ i.decodedBy t = true

/-- 30 R102, R103, R124: the decoder of a TCK stream reads back every sequence of IR and DR scans from its cycles. -/
def Obligations.StreamDecoderRecoversTheScans : Prop :=
  ∀ scans : List Scan, (∀ x ∈ scans, x.recorded.bits ≠ []) →
    readStream .rti [] (scans.flatMap Scan.cycles) = scans.map Scan.recorded

/-! ## The agents -/

/-- 42 R250, R251, R252, 60 R370: in debug mode with none pending the CPU posts an access to debug memory, the first after an entry
with ProbTrap = 1 being the vector fetch; with ProbEn = 0 it faults. (`posted` is the model's, log 8.) -/
def Obligations.CpuPostsOneAccess : Prop :=
  ∀ (s : State) (a : Access) (rest : List Turn), TurnOf (.cpu (.post a)) rest s →
    s.cpu.mode = .debug → s.cpu.pending = none → s.cfg.dmsegLo ≤ a.addr → a.addr ≤ s.cfg.dmsegHi →
    (s.cpu.atVector = true → a.kind = .fetch ∧ a.size = .word ∧ a.addr = s.cfg.dmsegVector) →
    (s.ecr.probEn = true → step s = .next { s with
      agenda := rest
      cpu := { s.cpu with pending := some a, atVector := false, posted := true }
      ejAddr := a.addr
      ejData := if a.kind = .store then a.data else s.ejData }) ∧
    (s.ecr.probEn = false → step s = .next { s with agenda := rest, faults := [.debugWithoutProbEn] })

/-- 42 R250 to R252, R260, 60 R382 to R384: the CPU posts nothing outside debug mode, outside debug memory, while an access is pending or before
the vector fetch that is due, takes no debug exception in debug mode, in reset or without a request, and leaves debug mode only from it with
no access pending. That such a turn is a step that changes nothing is the model's (DESIGN CHOICE, log 3; the conditions of a post are log 23,
DEDUCED). -/
def Obligations.CpuTurnsThatAreNotEnabled : Prop :=
  ∀ (s : State) (m : CpuMove) (rest : List Turn), TurnOf (.cpu m) rest s →
    (s.cpu.mode = .reset ∨ s.cpu.pending ≠ none ∧ s.cpu.mode = .debug ∨
      (∃ a, m = .post a ∧ (s.cpu.mode = .run ∨ a.addr < s.cfg.dmsegLo ∨ s.cfg.dmsegHi < a.addr ∨
        s.cpu.atVector = true ∧ ¬(a.kind = .fetch ∧ a.size = .word ∧ a.addr = s.cfg.dmsegVector))) ∨
      (m = .takeDebug ∧ (s.cpu.mode = .debug ∨ s.ecr.ejtagBrk = false)) ∨ (m = .leaveDebug ∧ s.cpu.mode = .run)) →
    step s = .next { s with agenda := rest }

/-- 60 R380, R382, R383, 42 R259: the CPU in Run takes a pending debug request (debug mode, the request cleared, the vector by ProbTrap), and
leaves debug mode with no access pending; nothing else changes. The field `pc`, written at the entry and kept on leaving, is the model's, outside
the block (DESIGN CHOICE, log 22). -/
def Obligations.CpuTakesAndLeavesTheDebugException : Prop :=
  ∀ (s : State) (rest : List Turn),
    (TurnOf (.cpu .takeDebug) rest s → s.cpu.mode = .run → s.ecr.ejtagBrk = true →
      step s = .next { s with
        agenda := rest
        cpu := { s.cpu with
          mode := .debug
          pc := if s.ecr.probTrap then s.cfg.dmsegVector else s.cfg.targetVector
          atVector := s.ecr.probTrap }
        ecr := { s.ecr with ejtagBrk := false } }) ∧
    (TurnOf (.cpu .leaveDebug) rest s → s.cpu.mode = .debug → s.cpu.pending = none →
      step s = .next { s with agenda := rest, cpu := { s.cpu with mode := .run, pending := none, atVector := false } })

/-- 41 R204, R205: the flash agent's completion and configuration steps. That a turn which is not enabled is a step that changes nothing is the
model's (DESIGN CHOICE, log 3), and so is a configuration step during or after an erase (DEDUCED, log 31). -/
def Obligations.FlashAgentSteps : Prop :=
  ∀ (s : State) (rest : List Turn),
    (TurnOf (.flash .finishErase) rest s →
      (s.flash.eraseRunning = true → ∃ (b : Bool) (k : Nat), step s = .next { s with
        agenda := rest
        draws := k
        flash := { s.flash with contents := .allErased, eraseRunning := false }
        mtap := { s.mtap with fcBusy := false, cfgRdy := true, cps := true, cpsKnown := true, nvmErr := b } }) ∧
      (s.flash.eraseRunning = false → step s = .next { s with agenda := rest })) ∧
    (TurnOf (.flash .configure) rest s →
      (s.flash.configPending = true → step s = .next { s with
        agenda := rest
        flash := { s.flash with configPending := false }
        mtap := { s.mtap with cfgRdy := true, cps := s.cfg.notProtected, cpsKnown := true } }) ∧
      (s.flash.configPending = false → step s = .next { s with agenda := rest }))

/-! ## The CRC unit and frames -/

/-- 44 R340, R343, R350, R351: the CRC unit's three operations; `crc16`, `encode_frame` and `decode_frame` run on its register: they leave the CRC
there and return what the functions give. A frame that is malformed leaves the register. The reply buffer of a command is log 12 (DESIGN CHOICE),
and that each operation of the unit is one step is the model's (DESIGN CHOICE, log 20). -/
def Obligations.CrcUnitOperations : Prop :=
  ∀ (s : State) (rest : List HostTask),
    (∀ seed, AboutTo (.op (.crcInit seed)) rest s → step s = .next { popped rest s with crc := seed }) ∧
    (∀ b, AboutTo (.op (.crcByte b)) rest s → step s = .next { popped rest s with crc := crcByte s.crc b }) ∧
    (AboutTo (.op .crcResult) rest s → ∃ t, step s = .next t ∧ t.crc = s.crc ∧ t.host.word = s.crc.setWidth 32) ∧
    (∀ seed bytes, AboutTo (.op (.crc16 seed bytes)) rest s →
      Host.Core.run Sys2Proof.core (bytes.length + 3) s = .next { s with
        crc := crc16 seed bytes
        host := { s.host with todo := rest, word := (crc16 seed bytes).setWidth 32 } }) ∧
    (∀ cmd data, AboutTo (.op (.encodeFrame cmd data)) rest s →
      Host.Core.run Sys2Proof.core (data.length + 4) s = .next { s with
        crc := crc16 s.cfg.frameSeed (cmd :: data)
        host := { s.host with todo := rest, frame := encodeFrame s.cfg.frameSeed cmd data } }) ∧
    ∀ bytes needed, AboutTo (.op (.receiveFrame bytes needed)) rest s →
      (frameParts bytes = none → ∃ t, step s = .next t ∧ t.crc = s.crc ∧ t.host.received = none ∧
        t.host.reply = .fresh s.draws ∧
        t.host.fatal = if needed then some .frame else s.host.fatal) ∧
      ∀ cmd data c, frameParts bytes = some (cmd, data, c) →
        ∃ t, Host.Core.run Sys2Proof.core (data.length + 4) s = .next t ∧ t.crc = crc16 s.cfg.frameSeed (cmd :: data) ∧
          (decodeFrame s.cfg.frameSeed bytes = some (cmd, data) → t.host = { s.host with
            todo := rest
            received := some (cmd, data)
            reply := (ReplyBuffer.fresh s.draws).write (cmd :: data) }) ∧
          (decodeFrame s.cfg.frameSeed bytes = none → t.host.received = none ∧ t.host.reply = .fresh s.draws ∧
            t.host.fatal = if needed then some .frame else s.host.fatal)

/-- 44 R342: each entry of the table is the CRC of its nibble from a zero register, and the table form equals the bitwise form for every
register and byte. -/
def Obligations.CrcTableFormEqualsBitwise : Prop :=
  (∀ n : BitVec 4, crcTable.getD n.toNat 0 = crcShifts 4 (n.setWidth 16 <<< 12)) ∧
  ∀ (r : Half) (b : Byte), crcByteByTable r b = crcByte r b

/-- 44 R344 (b), (c): a change of one byte, a single-bit flip among them, changes the CRC at every length and place. -/
def Obligations.CrcDetectsOneChangedByte : Prop :=
  ∀ (seed : Half) (before after : List Byte) (x y : Byte), x ≠ y →
    crc16 seed (before ++ x :: after) ≠ crc16 seed (before ++ y :: after)

/-- 44 R352, R351: decoding an encoded frame gives the command and the data back, whatever bytes they hold and whatever bytes follow the
frame. -/
def Obligations.FrameRoundTrip : Prop :=
  ∀ (seed : Half) (cmd : Byte) (data junk : List Byte),
    decodeFrame seed (encodeFrame seed cmd data ++ junk) = some (cmd, data)

/-! ## The host -/

/-- 43 R285, R287, R288, R290, R291, R320, R328, R329, 40 R160, R310, 60 R371, R374: a host operation called against its precondition is refused
before any scan. That a misaligned operation without the executive is refused for the precondition is the model's order (DEDUCED, log 19), and
that the same holds with no session open is the model's choice (DESIGN CHOICE, log 42). -/
def Obligations.HostOperationsRefuseBeforeAnyScan : Prop :=
  ∀ (s : State) (rest : List HostTask) (o : HostOp), AboutTo (.op o) rest s →
    (((∃ op, o = .mchpCommand op) ∧ (s.host.hostSel ≠ some .mtap ∨ s.host.hostIr ≠ some s.cfg.codes.mtapCommand)) ∨
      ((∃ w, o = .xferInstruction w) ∨ o = .getPeResponse) ∧ s.host.hostSel ≠ some .etap ∨
      ((∃ w, o = .fastdataWrite w) ∨ o = .fastdataRead) ∧
        (s.host.hostSel ≠ some .etap ∨ s.host.hostIr ≠ some s.cfg.codes.etapFastdata) ∨
      ((∃ op x ws n, o = .peCommand op x ws n) ∨ (∃ a n, o = .peRead a n) ∨ (∃ a w, o = .peWordProgram a w) ∨
        (∃ a w x, o = .peDoubleWordProgram a w x) ∨ (∃ a w x y z, o = .peQuadWordProgram a w x y z) ∨
        (∃ a r, o = .peRowProgram a r) ∨ (∃ a b, o = .peGetCrc a b) ∨ (∃ a ws, o = .programBlock a ws) ∨
        (∃ a ws, o = .verifyBlock a ws) ∨ (∃ a n, o = .readBlock a n)) ∧ s.host.useExecutive = false →
      step s = .next { popped rest s with refused := some .hostPrecondition }) ∧
    (∀ lead n v rd, o = .scan lead n v rd → 64 < n → step s = .next { popped rest s with refused := some .scanTooLong }) ∧
    (o = .loadExecutive → s.cfg.family = .mk → step s = .next { popped rest s with refused := some .mkLoader }) ∧
    (s.host.useExecutive = true →
      (∀ a w, o = .peWordProgram a w → a.toNat % 4 ≠ 0 →
        step s = .next { popped rest s with refused := some .misaligned }) ∧
      (∀ a w x, o = .peDoubleWordProgram a w x → a.toNat % 8 ≠ 0 →
        step s = .next { popped rest s with refused := some .misaligned }) ∧
      (∀ a w x y z, o = .peQuadWordProgram a w x y z → a.toNat % 16 ≠ 0 →
        step s = .next { popped rest s with refused := some .misaligned }))

/-- 43 R287, 60 R372: the PrAcc loop, started with nothing to do after it, makes at most POLL_MAX reads, whatever turns the agents take; with no
access pending and no other agent's turn it makes exactly POLL_MAX, none showing PrAcc, and ends with the fatal diagnostic. Its steps: the head
issues one read below the bound and ends the session at it, leaving only the close of an open session; the test goes on at the bit and returns
to the head without it. That nothing is left where no session is open is the model's (DEDUCED, log 29). A read is ECR_LEN bits long, 32 by
default (30 R124; DEDUCED, log 33). That the loop runs with no session open is the model's (DESIGN CHOICE, log 42). -/
def Obligations.PrAccLoopIsBounded : Prop :=
  (∀ (s t : State) (n : Nat), s.host.todo = [.poll 0] → Host.Core.run Sys2Proof.core n s = .next t →
    t.host.results.length ≤ s.host.results.length + s.cfg.pollMax) ∧
  (∀ s : State, AboutTo (.poll 0) [] s → s.tapState = .rti → decodeIr s.cfg.codes s.tapSel s.ir = .ok .etapControl →
    s.cfg.ecrLayout.legal s.cfg.ecrLen = true → s.cpu.pending = none →
    ∃ (n : Nat) (t : State), n ≤ (s.cfg.ecrLen + 10) * s.cfg.pollMax + 1 ∧
      Host.Core.run Sys2Proof.core n s = .next t ∧ t.host.fatal = some .prAccNotSet ∧
      t.cpu = s.cpu ∧ t.tapState = .rti ∧
      ∃ reads, t.host.results = s.host.results ++ reads ∧ reads.length = s.cfg.pollMax ∧
        ∀ r ∈ reads, r.length = s.cfg.ecrLen ∧ r.getD s.cfg.ecrLayout.prAcc true = false) ∧
  ∀ (s : State) (rest : List HostTask) (i : Nat),
    (AboutTo (.poll i) rest s → i = s.cfg.pollMax → ∃ t, step s = .next t ∧ t.host.fatal = some .prAccNotSet ∧
      t.host.todo = (if s.host.isOpen then [.op .sessionClose] else []) ∧ t.ejData = s.ejData ∧ t.cpu = s.cpu) ∧
    (AboutTo (.poll i) rest s → i < s.cfg.pollMax → step s = .next (popped
      (.op (.dr s.cfg.ecrLen (pollWord s.cfg.ecrLayout) true) :: .pollCheck (i + 1) :: rest) s)) ∧
    (AboutTo (.pollCheck i) rest s → s.host.result.getD s.cfg.ecrLayout.prAcc false = true →
      step s = .next (popped rest s)) ∧
    (AboutTo (.pollCheck i) rest s → s.host.result.getD s.cfg.ecrLayout.prAcc false = false →
      step s = .next (popped (.poll i :: rest) s))

/-- 43 R326, R304, 60 R373: an equal CRC goes on; a different one is fatal under `strict`, which leaves only the close of an open session, and a
log entry under `warn`. That nothing is left where no session is open is the model's (DEDUCED, log 29), and so is that the test runs there
(DESIGN CHOICE, log 42). -/
def Obligations.CrcMismatchFollowsThePolicy : Prop :=
  ∀ (s : State) (rest : List HostTask) (r0 r1 : Word) (more : List Word), AboutTo .compareCrc rest s →
    s.host.resp = r0 :: r1 :: more →
    (r1.extractLsb' 0 16 = s.crc → step s = .next (popped rest s)) ∧
    (r1.extractLsb' 0 16 ≠ s.crc → s.cfg.verifyPolicy = .strict →
      ∃ t, step s = .next t ∧ t.host.fatal = some .crcMismatch ∧
        t.host.todo = if s.host.isOpen then [.op .sessionClose] else []) ∧
    (r1.extractLsb' 0 16 ≠ s.crc → s.cfg.verifyPolicy = .warn →
      ∃ t, step s = .next t ∧ t.host.fatal = s.host.fatal ∧ t.host.todo = rest ∧
        t.host.log = s.host.log ++ [.crcMismatch (r1.extractLsb' 0 16) s.crc])

/-- 43 R310, 95 V-SRC-5: a loader table of N halfwords, N even, gives N/2 quadruples, the k-th loading its two halfwords, storing the word and
advancing the pointer by 4. -/
def Obligations.LoaderTableGivesHalfAsManyQuadruples : Prop :=
  ∀ l : List Half, l.length % 2 = 0 → (loaderQuads l).length = 4 * (l.length / 2) ∧
    ∀ k, 2 * k + 1 < l.length →
      (loaderQuads l)[4 * k]? = some (.op (.xferInstruction (0x3C060000 ||| (l.getD (2 * k) 0).setWidth 32))) ∧
      (loaderQuads l)[4 * k + 1]? = some (.op (.xferInstruction (0x34C60000 ||| (l.getD (2 * k + 1) 0).setWidth 32))) ∧
      (loaderQuads l)[4 * k + 2]? = some (.op (.xferInstruction 0xAC860000)) ∧
      (loaderQuads l)[4 * k + 3]? = some (.op (.xferInstruction 0x24840004))

/-- 43 R328: a block of whole rows whose words are all 0xFFFFFFFF issues no row program; and a block that begins with a whole row issues one
`pe_row_program` of that row, if one of its words is not 0xFFFFFFFF, and then what the block of the other words issues at the address after the
row. What `more` issues where it ends in a row of fewer words is the model's (DESIGN CHOICE, log 18), and so is that neither block is refused at
an address that is no multiple of 4 (DESIGN CHOICE, log 37) or for want of an open session (DESIGN CHOICE, log 42). -/
def Obligations.ErasedBlockIssuesNothing : Prop :=
  (∀ (s : State) (rest : List HostTask) (addr : Word) (n : Nat),
    AboutTo (.op (.programBlock addr (List.replicate (n * s.cfg.rowWords) 0xFFFFFFFF))) rest s →
    s.host.useExecutive = true → step s = .next (popped rest s)) ∧
  ∀ (s : State) (rest : List HostTask) (addr : Word) (row more : List Word),
    AboutTo (.op (.programBlock addr (row ++ more))) rest s → s.host.useExecutive = true →
    0 < s.cfg.rowWords → row.length = s.cfg.rowWords →
    ∃ others : List HostTask,
      step (popped (.op (.programBlock (addr + BitVec.ofNat 32 (4 * s.cfg.rowWords)) more) :: rest) s)
        = .next (popped (others ++ rest) s) ∧
      ((∃ w ∈ row, w ≠ 0xFFFFFFFF) →
        step s = .next (popped (.op (.peRowProgram addr row) :: others ++ rest) s)) ∧
      ((∀ w ∈ row, w = 0xFFFFFFFF) → step s = .next (popped (others ++ rest) s))

/-! ## The whole machine -/

/-- The invariant holds at reset. -/
def Obligations.ResetHasTheInvariant : Prop := State.reset.Inv

/-- 10 R42, 70 R403, 10 R25: every step keeps the invariant, from every state that has it. -/
def Obligations.StepKeepsTheInvariant : Prop :=
  ∀ s t : State, s.Inv → step s = .next t → t.Inv

/-- 10 R44: no step changes the parameters. -/
def Obligations.StepKeepsTheParameters : Prop := ∀ s t : State, step s = .next t → t.cfg = s.cfg

/-- 40 R157: the selected TAP changes only at an Update-IR of SW_MTAP or SW_ETAP, in Test-Logic-Reset, or at a power-on. -/
def Obligations.TapSelChangesOnlyBySwitchOrReset : Prop :=
  ∀ s t : State, step s = .next t → t.tapSel ≠ s.tapSel →
    s.tapState = .tlr ∨ (∃ rest, s.agenda = .powerOn :: rest) ∨
      (s.tapState = .uir ∧ ((decodeIr s.cfg.codes s.tapSel s.irShift.code = .ok .swMtap ∧ t.tapSel = .mtap) ∨
        (decodeIr s.cfg.codes s.tapSel s.irShift.code = .ok .swEtap ∧ t.tapSel = .etap)))

/-- 42 R231, R261, 20 R79: a step delivers at most one word, and only by completing a pending fetch or load at an Update-DR. -/
def Obligations.WordsAreDeliveredByCompletionOnly : Prop :=
  ∀ s t : State, step s = .next t → (∀ rest, s.agenda ≠ .powerOn :: rest) →
    t.cpu.delivered = s.cpu.delivered ∨
      (s.tapState = .udr ∧ ∃ a w, s.cpu.pending = some a ∧ a.kind ≠ .store ∧ t.cpu.pending = none ∧
        t.cpu.delivered = s.cpu.delivered ++ [w])

/-- 20 R85, 42 R231, R251: a pending access is neither replaced nor lost: a step keeps it, or ends it at an Update-DR or a power-on. -/
def Obligations.PendingAccessWaitsForTheProbe : Prop :=
  ∀ (s t : State) (a : Access), s.cpu.pending = some a → step s = .next t → (∀ rest, s.agenda ≠ .powerOn :: rest) →
    t.cpu.pending = some a ∨ (s.tapState = .udr ∧ t.cpu.pending = none)

/-- 41 R206: a turn of the flash agent leaves the TAP controller and every EJTAG register and the CPU as they are. -/
def Obligations.FlashAgentLeavesTheTapAndEjtag : Prop :=
  ∀ (s t : State) (m : FlashMove) (rest : List Turn), s.agenda = .flash m :: rest → step s = .next t →
    t.tapState = s.tapState ∧ t.irShift = s.irShift ∧ t.ir = s.ir ∧ t.tapSel = s.tapSel ∧ t.drShift = s.drShift ∧
      t.ecr = s.ecr ∧ t.ejData = s.ejData ∧ t.ejAddr = s.ejAddr ∧ t.fdCapt = s.fdCapt ∧ t.ejtagBoot = s.ejtagBoot ∧
      t.cpu = s.cpu

/-- 70 R400 (a), R402: what the power-on column of 10_state.md gives the reset state, and every state after a power-on turn, which keeps the
parameters, the host's session, the flash contents and the turns to come (DESIGN CHOICE, log 28). After the turn `ir` is the table's IDCODE
code, 0x01 by default (log 4). -/
def Obligations.ResetLeavesThePowerOnValues : Prop :=
  (State.reset.tapState = .tlr ∧ State.reset.ir = 0x01 ∧ State.reset.mtap.devRst = false ∧
  State.reset.mtap.fcBusy = false ∧ State.reset.mtap.cfgRdy = false ∧ State.reset.ecr.rocc = true ∧
  State.reset.ecr.perRst = false ∧ State.reset.ecr.prRst = false ∧ State.reset.ecr.probEn = false ∧
  State.reset.ecr.probTrap = false ∧ State.reset.ecr.ejtagBrk = false ∧ State.reset.prAcc = false ∧
  (∀ free, State.reset.prnw free = false) ∧ State.reset.dm = false ∧ State.reset.fdPending = false ∧ State.reset.fdCapt = false ∧
  State.reset.ejtagBoot = false ∧ State.reset.cpu.mode = .run ∧ State.reset.cpu.pending = none ∧ State.reset.cpu.delivered = [] ∧
  State.reset.flash.eraseRunning = false ∧ State.reset.faults = [] ∧ State.reset.refused = none) ∧
  ∀ (s : State) (rest : List Turn), TurnOf .powerOn rest s →
    ∃ t, step s = .next t ∧
      t.tapState = .tlr ∧ t.ir = s.cfg.codes.mtapIdcode ∧ t.mtap.devRst = false ∧ t.mtap.fcBusy = false ∧
      t.mtap.cfgRdy = false ∧ t.mtap.cpsKnown = false ∧ t.flash.configPending = true ∧
      t.ecr = ⟨true, false, false, false, false, false⟩ ∧ t.prAcc = false ∧ (∀ free, t.prnw free = false) ∧
      t.dm = false ∧ t.fdPending = false ∧ t.fdCapt = false ∧ t.ejtagBoot = false ∧ t.cpu.mode = .run ∧
      t.cpu.pending = none ∧ t.cpu.delivered = [] ∧ t.flash.eraseRunning = false ∧ t.faults = [] ∧ t.refused = none ∧
      t.cfg = s.cfg ∧ t.host = s.host ∧ t.flash.contents = s.flash.contents ∧ t.agenda = rest
end

