-- ==== Sys2Proof/Laws/Bits.lean ====
section
/-! SUPPORT. Bit lists and words: both directions of the round trip, and the length of a shift. -/

namespace Sys2Proof

@[simp] theorem bitsOf_length {w : Nat} (v : BitVec w) : (bitsOf v).length = w := by simp [bitsOf]

theorem bitsToNat_lt (bs : List Bool) : bitsToNat bs < 2 ^ bs.length := by
  induction bs with
  | nil => simp [bitsToNat]
  | cons b bs ih =>
    have hb : b.toNat ≤ 1 := by cases b <;> simp
    simp only [bitsToNat, List.length_cons, Nat.pow_succ]
    omega

theorem bitsToNat_testBit (bs : List Bool) (i : Nat) : (bitsToNat bs).testBit i = bs.getD i false := by
  induction bs generalizing i with
  | nil => simp [bitsToNat]
  | cons b bs ih =>
    cases i with
    | zero => cases b <;> simp [bitsToNat, Nat.testBit_zero]
    | succ i =>
      have h : (b.toNat + 2 * bitsToNat bs) / 2 = bitsToNat bs := by
        cases b <;> simp
        omega
      simp [bitsToNat, Nat.testBit_succ, h, ih]

theorem ofBits_getLsbD (w : Nat) (bs : List Bool) (i : Nat) :
    (ofBits w bs).getLsbD i = (decide (i < w) && bs.getD i false) := by
  simp [ofBits, BitVec.getLsbD_ofNat, bitsToNat_testBit]

@[simp] theorem ofBits_bitsOf {w : Nat} (v : BitVec w) : ofBits w (bitsOf v) = v := by
  apply BitVec.eq_of_getLsbD_eq
  intro i hi
  rw [ofBits_getLsbD]
  simp [bitsOf, hi]

theorem bitsOf_ofBits {w : Nat} {bs : List Bool} (h : bs.length = w) : bitsOf (ofBits w bs) = bs := by
  apply List.ext_getElem
  · simp [h]
  · intro i h1 h2
    simp only [bitsOf, List.getElem_map, List.getElem_range, ofBits_getLsbD]
    have : i < w := by simpa using h1
    simp [this, h2]

namespace Machine

/-- The bits of a host's scan value are the low bits of the value. -/
theorem scanBits_eq_bitsOf (n : Nat) (v : ScanWord) : scanBits n v = bitsOf (v.setWidth n) := by
  refine List.ext_getElem (by simp [scanBits]) fun i h _ => ?_
  have hi : i < n := by simpa [scanBits] using h
  simp [scanBits, bitsOf, hi, -BitVec.getLsbD_eq_getElem, BitVec.getLsbD_setWidth]

/-- A shift keeps the length of the register. -/
@[simp] theorem shiftDr_length (b : Bool) (bs : List Bool) : (shiftDr b bs).length = bs.length := by
  simp [shiftDr]

/-- A code placed in the instruction shift register is the code read from it. -/
@[simp] theorem IrShift.code_ofCode (c : IrCode) : (IrShift.ofCode c).code = c := by
  revert c
  decide

end Machine

end Sys2Proof
end

