-- ==== Sys2Proof/Laws/Crc.lean ====
section
/-! SUPPORT. The CRC register's shifts are linear and lose nothing. -/

namespace Sys2Proof.Machine

theorem crcShift_xor (a b : Half) : crcShift (a ^^^ b) = crcShift a ^^^ crcShift b := by
  unfold crcShift
  rw [BitVec.getLsbD_xor]
  cases a.getLsbD 15 <;> cases b.getLsbD 15 <;> simp [BitVec.shiftLeft_xor_distrib]
  · rw [BitVec.xor_assoc]
  · rw [BitVec.xor_assoc, BitVec.xor_assoc, BitVec.xor_comm (b <<< 1)]
  · rw [BitVec.xor_assoc, BitVec.xor_comm crcPoly, BitVec.xor_assoc, BitVec.xor_self, BitVec.xor_zero]

theorem crcShifts_xor (n : Nat) (a b : Half) : crcShifts n (a ^^^ b) = crcShifts n a ^^^ crcShifts n b := by
  induction n generalizing a b with
  | zero => rfl
  | succ n ih => simp only [crcShifts, crcShift_xor, ih]

theorem crcShift_eq_zero {a : Half} (h : crcShift a = 0) : a = 0 := by
  unfold crcShift at h
  apply BitVec.eq_of_getLsbD_eq
  intro i hi
  split at h
  · have h0 : ((a <<< 1) ^^^ crcPoly).getLsbD 0 = false := by
      rw [h]
      rfl
    rw [BitVec.getLsbD_xor, BitVec.getLsbD_shiftLeft] at h0
    simp [crcPoly] at h0
  · next hb =>
    have hk : ∀ k, k < 15 → a.getLsbD k = false := by
      intro k hk
      have h1 := congrArg (fun v : Half => v.getLsbD (k + 1)) h
      rw [BitVec.getLsbD_shiftLeft] at h1
      simp at h1
      simpa using h1 (by omega)
    by_cases h15 : i = 15
    · subst h15
      simpa using hb
    · rw [hk i (by omega)]
      simp

/-- Two register values with equal shifts are equal. -/
theorem crcShifts_injective {n : Nat} {a b : Half} (h : crcShifts n a = crcShifts n b) : a = b := by
  have hz : ∀ n (x : Half), crcShifts n x = 0 → x = 0 := by
    intro n
    induction n with
    | zero => exact fun _ h => h
    | succ n ih => exact fun x h => crcShift_eq_zero (ih _ h)
  have h0 : crcShifts n (a ^^^ b) = 0 := by
    rw [crcShifts_xor, h, BitVec.xor_self]
    rfl
  exact BitVec.xor_eq_zero_iff.mp (hz n _ h0)

end Sys2Proof.Machine
end

