-- ==== Sys2Proof/Laws/Decode.lean ====
section
/-! SUPPORT. What a lookup in a code table answers, and the reader of a TCK stream over the data cycles of a scan. -/

namespace Sys2Proof

/-- A lookup answers a row of the table. -/
theorem lookup_mem {α : Type} [DecidableEq α] {rows : List (α × Instr)} {v : α} {i : Instr}
    (h : lookup rows v = some i) : (v, i) ∈ rows := by
  induction rows with
  | nil => cases h
  | cons r rs ih =>
    obtain ⟨k, j⟩ := r
    simp only [lookup] at h
    split at h
    · simp_all
    · exact List.mem_cons_of_mem _ (ih h)

/-- In a table of distinct codes a lookup answers the row of its code. -/
theorem lookup_of_mem {α : Type} [DecidableEq α] {rows : List (α × Instr)} {v : α} {i : Instr}
    (hn : (rows.map Prod.fst).Nodup) (h : (v, i) ∈ rows) : lookup rows v = some i := by
  induction rows with
  | nil => cases h
  | cons r rs ih =>
    obtain ⟨k, j⟩ := r
    simp only [List.map_cons, List.nodup_cons] at hn
    simp only [lookup]
    rcases List.mem_cons.mp h with h | h
    · simp only [Prod.mk.injEq] at h
      simp [h]
    · have hk : k ≠ v := by
        rintro rfl
        exact hn.1 (List.mem_map.mpr ⟨_, h, rfl⟩)
      simp [hk, ih hn.2 h]

theorem decodeIr_mem {c : Codes} {t : Tap} {v : IrCode} {i : Instr} (h : decodeIr c t v = .ok i) :
    (v, i) ∈ irRows c t := by
  unfold decodeIr at h
  split at h
  · cases h
    exact lookup_mem ‹_›
  · cases h

theorem decodeMchp_mem {c : Codes} {v : Byte} {i : Instr} (h : decodeMchp c v = .ok i) : (v, i) ∈ mchpRows c := by
  unfold decodeMchp at h
  split at h
  · cases h
    exact lookup_mem ‹_›
  · cases h

theorem dataCycles_length (rd : Bool) (bs : List Bool) : (dataCycles rd bs).length = bs.length := by
  induction bs with
  | nil => rfl
  | cons b bs ih =>
    cases bs with
    | nil => rfl
    | cons b' bs => simpa [dataCycles] using ih

end Sys2Proof
end

