-- ==== Sys2Proof/Laws/State.lean ====
section
/-! SUPPORT. One lemma per field per named update of the state: what an update writes and what it leaves. -/

namespace Sys2Proof.Machine

variable (s : State)

@[simp] theorem State.bump_cfg : (State.bump s).cfg = s.cfg := rfl
@[simp] theorem State.bump_tapState : (State.bump s).tapState = s.tapState := rfl
@[simp] theorem State.bump_irShift : (State.bump s).irShift = s.irShift := rfl
@[simp] theorem State.bump_ir : (State.bump s).ir = s.ir := rfl
@[simp] theorem State.bump_tapSel : (State.bump s).tapSel = s.tapSel := rfl
@[simp] theorem State.bump_drShift : (State.bump s).drShift = s.drShift := rfl
@[simp] theorem State.bump_mtap : (State.bump s).mtap = s.mtap := rfl
@[simp] theorem State.bump_ecr : (State.bump s).ecr = s.ecr := rfl
@[simp] theorem State.bump_ejData : (State.bump s).ejData = s.ejData := rfl
@[simp] theorem State.bump_ejAddr : (State.bump s).ejAddr = s.ejAddr := rfl
@[simp] theorem State.bump_fdCapt : (State.bump s).fdCapt = s.fdCapt := rfl
@[simp] theorem State.bump_ejtagBoot : (State.bump s).ejtagBoot = s.ejtagBoot := rfl
@[simp] theorem State.bump_cpu : (State.bump s).cpu = s.cpu := rfl
@[simp] theorem State.bump_flash : (State.bump s).flash = s.flash := rfl
@[simp] theorem State.bump_crc : (State.bump s).crc = s.crc := rfl
@[simp] theorem State.bump_faults : (State.bump s).faults = s.faults := rfl
@[simp] theorem State.bump_refused : (State.bump s).refused = s.refused := rfl
@[simp] theorem State.bump_host : (State.bump s).host = s.host := rfl
@[simp] theorem State.bump_agenda : (State.bump s).agenda = s.agenda := rfl
@[simp] theorem State.bump_draws : (State.bump s).draws = s.draws + 1 := rfl

@[simp] theorem State.capture_cfg (bs : List Bool) : (State.capture bs s).cfg = s.cfg := rfl
@[simp] theorem State.capture_tapState (bs : List Bool) : (State.capture bs s).tapState = s.tapState := rfl
@[simp] theorem State.capture_irShift (bs : List Bool) : (State.capture bs s).irShift = s.irShift := rfl
@[simp] theorem State.capture_ir (bs : List Bool) : (State.capture bs s).ir = s.ir := rfl
@[simp] theorem State.capture_tapSel (bs : List Bool) : (State.capture bs s).tapSel = s.tapSel := rfl
@[simp] theorem State.capture_drShift (bs : List Bool) : (State.capture bs s).drShift = bs := rfl
@[simp] theorem State.capture_mtap (bs : List Bool) : (State.capture bs s).mtap = s.mtap := rfl
@[simp] theorem State.capture_ecr (bs : List Bool) : (State.capture bs s).ecr = s.ecr := rfl
@[simp] theorem State.capture_ejData (bs : List Bool) : (State.capture bs s).ejData = s.ejData := rfl
@[simp] theorem State.capture_ejAddr (bs : List Bool) : (State.capture bs s).ejAddr = s.ejAddr := rfl
@[simp] theorem State.capture_fdCapt (bs : List Bool) : (State.capture bs s).fdCapt = s.fdCapt := rfl
@[simp] theorem State.capture_ejtagBoot (bs : List Bool) : (State.capture bs s).ejtagBoot = s.ejtagBoot := rfl
@[simp] theorem State.capture_cpu (bs : List Bool) : (State.capture bs s).cpu = s.cpu := rfl
@[simp] theorem State.capture_flash (bs : List Bool) : (State.capture bs s).flash = s.flash := rfl
@[simp] theorem State.capture_crc (bs : List Bool) : (State.capture bs s).crc = s.crc := rfl
@[simp] theorem State.capture_faults (bs : List Bool) : (State.capture bs s).faults = s.faults := rfl
@[simp] theorem State.capture_refused (bs : List Bool) : (State.capture bs s).refused = s.refused := rfl
@[simp] theorem State.capture_host (bs : List Bool) : (State.capture bs s).host = s.host := rfl
@[simp] theorem State.capture_agenda (bs : List Bool) : (State.capture bs s).agenda = s.agenda := rfl
@[simp] theorem State.capture_draws (bs : List Bool) : (State.capture bs s).draws = s.draws := rfl

@[simp] theorem State.latchIr_cfg (c : IrCode) : (State.latchIr c s).cfg = s.cfg := rfl
@[simp] theorem State.latchIr_tapState (c : IrCode) : (State.latchIr c s).tapState = s.tapState := rfl
@[simp] theorem State.latchIr_irShift (c : IrCode) : (State.latchIr c s).irShift = s.irShift := rfl
@[simp] theorem State.latchIr_ir (c : IrCode) : (State.latchIr c s).ir = c := rfl
@[simp] theorem State.latchIr_tapSel (c : IrCode) : (State.latchIr c s).tapSel = s.tapSel := rfl
@[simp] theorem State.latchIr_drShift (c : IrCode) : (State.latchIr c s).drShift = s.drShift := rfl
@[simp] theorem State.latchIr_mtap (c : IrCode) : (State.latchIr c s).mtap = s.mtap := rfl
@[simp] theorem State.latchIr_ecr (c : IrCode) : (State.latchIr c s).ecr = s.ecr := rfl
@[simp] theorem State.latchIr_ejData (c : IrCode) : (State.latchIr c s).ejData = s.ejData := rfl
@[simp] theorem State.latchIr_ejAddr (c : IrCode) : (State.latchIr c s).ejAddr = s.ejAddr := rfl
@[simp] theorem State.latchIr_fdCapt (c : IrCode) : (State.latchIr c s).fdCapt = s.fdCapt := rfl
@[simp] theorem State.latchIr_ejtagBoot (c : IrCode) : (State.latchIr c s).ejtagBoot = s.ejtagBoot := rfl
@[simp] theorem State.latchIr_cpu (c : IrCode) : (State.latchIr c s).cpu = s.cpu := rfl
@[simp] theorem State.latchIr_flash (c : IrCode) : (State.latchIr c s).flash = s.flash := rfl
@[simp] theorem State.latchIr_crc (c : IrCode) : (State.latchIr c s).crc = s.crc := rfl
@[simp] theorem State.latchIr_faults (c : IrCode) : (State.latchIr c s).faults = s.faults := rfl
@[simp] theorem State.latchIr_refused (c : IrCode) : (State.latchIr c s).refused = s.refused := rfl
@[simp] theorem State.latchIr_host (c : IrCode) : (State.latchIr c s).host = s.host := rfl
@[simp] theorem State.latchIr_agenda (c : IrCode) : (State.latchIr c s).agenda = s.agenda := rfl
@[simp] theorem State.latchIr_draws (c : IrCode) : (State.latchIr c s).draws = s.draws := rfl

@[simp] theorem State.setTapSel_cfg (t : Tap) : (State.setTapSel t s).cfg = s.cfg := rfl
@[simp] theorem State.setTapSel_tapState (t : Tap) : (State.setTapSel t s).tapState = s.tapState := rfl
@[simp] theorem State.setTapSel_irShift (t : Tap) : (State.setTapSel t s).irShift = s.irShift := rfl
@[simp] theorem State.setTapSel_ir (t : Tap) : (State.setTapSel t s).ir = s.ir := rfl
@[simp] theorem State.setTapSel_tapSel (t : Tap) : (State.setTapSel t s).tapSel = t := rfl
@[simp] theorem State.setTapSel_drShift (t : Tap) : (State.setTapSel t s).drShift = s.drShift := rfl
@[simp] theorem State.setTapSel_mtap (t : Tap) : (State.setTapSel t s).mtap = s.mtap := rfl
@[simp] theorem State.setTapSel_ecr (t : Tap) : (State.setTapSel t s).ecr = s.ecr := rfl
@[simp] theorem State.setTapSel_ejData (t : Tap) : (State.setTapSel t s).ejData = s.ejData := rfl
@[simp] theorem State.setTapSel_ejAddr (t : Tap) : (State.setTapSel t s).ejAddr = s.ejAddr := rfl
@[simp] theorem State.setTapSel_fdCapt (t : Tap) : (State.setTapSel t s).fdCapt = s.fdCapt := rfl
@[simp] theorem State.setTapSel_ejtagBoot (t : Tap) : (State.setTapSel t s).ejtagBoot = s.ejtagBoot := rfl
@[simp] theorem State.setTapSel_cpu (t : Tap) : (State.setTapSel t s).cpu = s.cpu := rfl
@[simp] theorem State.setTapSel_flash (t : Tap) : (State.setTapSel t s).flash = s.flash := rfl
@[simp] theorem State.setTapSel_crc (t : Tap) : (State.setTapSel t s).crc = s.crc := rfl
@[simp] theorem State.setTapSel_faults (t : Tap) : (State.setTapSel t s).faults = s.faults := rfl
@[simp] theorem State.setTapSel_refused (t : Tap) : (State.setTapSel t s).refused = s.refused := rfl
@[simp] theorem State.setTapSel_host (t : Tap) : (State.setTapSel t s).host = s.host := rfl
@[simp] theorem State.setTapSel_agenda (t : Tap) : (State.setTapSel t s).agenda = s.agenda := rfl
@[simp] theorem State.setTapSel_draws (t : Tap) : (State.setTapSel t s).draws = s.draws := rfl

@[simp] theorem State.setEjData_cfg (w : Word) : (State.setEjData w s).cfg = s.cfg := rfl
@[simp] theorem State.setEjData_tapState (w : Word) : (State.setEjData w s).tapState = s.tapState := rfl
@[simp] theorem State.setEjData_irShift (w : Word) : (State.setEjData w s).irShift = s.irShift := rfl
@[simp] theorem State.setEjData_ir (w : Word) : (State.setEjData w s).ir = s.ir := rfl
@[simp] theorem State.setEjData_tapSel (w : Word) : (State.setEjData w s).tapSel = s.tapSel := rfl
@[simp] theorem State.setEjData_drShift (w : Word) : (State.setEjData w s).drShift = s.drShift := rfl
@[simp] theorem State.setEjData_mtap (w : Word) : (State.setEjData w s).mtap = s.mtap := rfl
@[simp] theorem State.setEjData_ecr (w : Word) : (State.setEjData w s).ecr = s.ecr := rfl
@[simp] theorem State.setEjData_ejData (w : Word) : (State.setEjData w s).ejData = w := rfl
@[simp] theorem State.setEjData_ejAddr (w : Word) : (State.setEjData w s).ejAddr = s.ejAddr := rfl
@[simp] theorem State.setEjData_fdCapt (w : Word) : (State.setEjData w s).fdCapt = s.fdCapt := rfl
@[simp] theorem State.setEjData_ejtagBoot (w : Word) : (State.setEjData w s).ejtagBoot = s.ejtagBoot := rfl
@[simp] theorem State.setEjData_cpu (w : Word) : (State.setEjData w s).cpu = s.cpu := rfl
@[simp] theorem State.setEjData_flash (w : Word) : (State.setEjData w s).flash = s.flash := rfl
@[simp] theorem State.setEjData_crc (w : Word) : (State.setEjData w s).crc = s.crc := rfl
@[simp] theorem State.setEjData_faults (w : Word) : (State.setEjData w s).faults = s.faults := rfl
@[simp] theorem State.setEjData_refused (w : Word) : (State.setEjData w s).refused = s.refused := rfl
@[simp] theorem State.setEjData_host (w : Word) : (State.setEjData w s).host = s.host := rfl
@[simp] theorem State.setEjData_agenda (w : Word) : (State.setEjData w s).agenda = s.agenda := rfl
@[simp] theorem State.setEjData_draws (w : Word) : (State.setEjData w s).draws = s.draws := rfl

@[simp] theorem State.setEjtagBoot_cfg (b : Bool) : (State.setEjtagBoot b s).cfg = s.cfg := rfl
@[simp] theorem State.setEjtagBoot_tapState (b : Bool) : (State.setEjtagBoot b s).tapState = s.tapState := rfl
@[simp] theorem State.setEjtagBoot_irShift (b : Bool) : (State.setEjtagBoot b s).irShift = s.irShift := rfl
@[simp] theorem State.setEjtagBoot_ir (b : Bool) : (State.setEjtagBoot b s).ir = s.ir := rfl
@[simp] theorem State.setEjtagBoot_tapSel (b : Bool) : (State.setEjtagBoot b s).tapSel = s.tapSel := rfl
@[simp] theorem State.setEjtagBoot_drShift (b : Bool) : (State.setEjtagBoot b s).drShift = s.drShift := rfl
@[simp] theorem State.setEjtagBoot_mtap (b : Bool) : (State.setEjtagBoot b s).mtap = s.mtap := rfl
@[simp] theorem State.setEjtagBoot_ecr (b : Bool) : (State.setEjtagBoot b s).ecr = s.ecr := rfl
@[simp] theorem State.setEjtagBoot_ejData (b : Bool) : (State.setEjtagBoot b s).ejData = s.ejData := rfl
@[simp] theorem State.setEjtagBoot_ejAddr (b : Bool) : (State.setEjtagBoot b s).ejAddr = s.ejAddr := rfl
@[simp] theorem State.setEjtagBoot_fdCapt (b : Bool) : (State.setEjtagBoot b s).fdCapt = s.fdCapt := rfl
@[simp] theorem State.setEjtagBoot_ejtagBoot (b : Bool) : (State.setEjtagBoot b s).ejtagBoot = b := rfl
@[simp] theorem State.setEjtagBoot_cpu (b : Bool) : (State.setEjtagBoot b s).cpu = s.cpu := rfl
@[simp] theorem State.setEjtagBoot_flash (b : Bool) : (State.setEjtagBoot b s).flash = s.flash := rfl
@[simp] theorem State.setEjtagBoot_crc (b : Bool) : (State.setEjtagBoot b s).crc = s.crc := rfl
@[simp] theorem State.setEjtagBoot_faults (b : Bool) : (State.setEjtagBoot b s).faults = s.faults := rfl
@[simp] theorem State.setEjtagBoot_refused (b : Bool) : (State.setEjtagBoot b s).refused = s.refused := rfl
@[simp] theorem State.setEjtagBoot_host (b : Bool) : (State.setEjtagBoot b s).host = s.host := rfl
@[simp] theorem State.setEjtagBoot_agenda (b : Bool) : (State.setEjtagBoot b s).agenda = s.agenda := rfl
@[simp] theorem State.setEjtagBoot_draws (b : Bool) : (State.setEjtagBoot b s).draws = s.draws := rfl

@[simp] theorem State.setMtap_cfg (m : Mtap) : (State.setMtap m s).cfg = s.cfg := rfl
@[simp] theorem State.setMtap_tapState (m : Mtap) : (State.setMtap m s).tapState = s.tapState := rfl
@[simp] theorem State.setMtap_irShift (m : Mtap) : (State.setMtap m s).irShift = s.irShift := rfl
@[simp] theorem State.setMtap_ir (m : Mtap) : (State.setMtap m s).ir = s.ir := rfl
@[simp] theorem State.setMtap_tapSel (m : Mtap) : (State.setMtap m s).tapSel = s.tapSel := rfl
@[simp] theorem State.setMtap_drShift (m : Mtap) : (State.setMtap m s).drShift = s.drShift := rfl
@[simp] theorem State.setMtap_mtap (m : Mtap) : (State.setMtap m s).mtap = m := rfl
@[simp] theorem State.setMtap_ecr (m : Mtap) : (State.setMtap m s).ecr = s.ecr := rfl
@[simp] theorem State.setMtap_ejData (m : Mtap) : (State.setMtap m s).ejData = s.ejData := rfl
@[simp] theorem State.setMtap_ejAddr (m : Mtap) : (State.setMtap m s).ejAddr = s.ejAddr := rfl
@[simp] theorem State.setMtap_fdCapt (m : Mtap) : (State.setMtap m s).fdCapt = s.fdCapt := rfl
@[simp] theorem State.setMtap_ejtagBoot (m : Mtap) : (State.setMtap m s).ejtagBoot = s.ejtagBoot := rfl
@[simp] theorem State.setMtap_cpu (m : Mtap) : (State.setMtap m s).cpu = s.cpu := rfl
@[simp] theorem State.setMtap_flash (m : Mtap) : (State.setMtap m s).flash = s.flash := rfl
@[simp] theorem State.setMtap_crc (m : Mtap) : (State.setMtap m s).crc = s.crc := rfl
@[simp] theorem State.setMtap_faults (m : Mtap) : (State.setMtap m s).faults = s.faults := rfl
@[simp] theorem State.setMtap_refused (m : Mtap) : (State.setMtap m s).refused = s.refused := rfl
@[simp] theorem State.setMtap_host (m : Mtap) : (State.setMtap m s).host = s.host := rfl
@[simp] theorem State.setMtap_agenda (m : Mtap) : (State.setMtap m s).agenda = s.agenda := rfl
@[simp] theorem State.setMtap_draws (m : Mtap) : (State.setMtap m s).draws = s.draws := rfl

@[simp] theorem State.setEcr_cfg (e : Ecr) : (State.setEcr e s).cfg = s.cfg := rfl
@[simp] theorem State.setEcr_tapState (e : Ecr) : (State.setEcr e s).tapState = s.tapState := rfl
@[simp] theorem State.setEcr_irShift (e : Ecr) : (State.setEcr e s).irShift = s.irShift := rfl
@[simp] theorem State.setEcr_ir (e : Ecr) : (State.setEcr e s).ir = s.ir := rfl
@[simp] theorem State.setEcr_tapSel (e : Ecr) : (State.setEcr e s).tapSel = s.tapSel := rfl
@[simp] theorem State.setEcr_drShift (e : Ecr) : (State.setEcr e s).drShift = s.drShift := rfl
@[simp] theorem State.setEcr_mtap (e : Ecr) : (State.setEcr e s).mtap = s.mtap := rfl
@[simp] theorem State.setEcr_ecr (e : Ecr) : (State.setEcr e s).ecr = e := rfl
@[simp] theorem State.setEcr_ejData (e : Ecr) : (State.setEcr e s).ejData = s.ejData := rfl
@[simp] theorem State.setEcr_ejAddr (e : Ecr) : (State.setEcr e s).ejAddr = s.ejAddr := rfl
@[simp] theorem State.setEcr_fdCapt (e : Ecr) : (State.setEcr e s).fdCapt = s.fdCapt := rfl
@[simp] theorem State.setEcr_ejtagBoot (e : Ecr) : (State.setEcr e s).ejtagBoot = s.ejtagBoot := rfl
@[simp] theorem State.setEcr_cpu (e : Ecr) : (State.setEcr e s).cpu = s.cpu := rfl
@[simp] theorem State.setEcr_flash (e : Ecr) : (State.setEcr e s).flash = s.flash := rfl
@[simp] theorem State.setEcr_crc (e : Ecr) : (State.setEcr e s).crc = s.crc := rfl
@[simp] theorem State.setEcr_faults (e : Ecr) : (State.setEcr e s).faults = s.faults := rfl
@[simp] theorem State.setEcr_refused (e : Ecr) : (State.setEcr e s).refused = s.refused := rfl
@[simp] theorem State.setEcr_host (e : Ecr) : (State.setEcr e s).host = s.host := rfl
@[simp] theorem State.setEcr_agenda (e : Ecr) : (State.setEcr e s).agenda = s.agenda := rfl
@[simp] theorem State.setEcr_draws (e : Ecr) : (State.setEcr e s).draws = s.draws := rfl

@[simp] theorem State.setCpu_cfg (c : Cpu) : (State.setCpu c s).cfg = s.cfg := rfl
@[simp] theorem State.setCpu_tapState (c : Cpu) : (State.setCpu c s).tapState = s.tapState := rfl
@[simp] theorem State.setCpu_irShift (c : Cpu) : (State.setCpu c s).irShift = s.irShift := rfl
@[simp] theorem State.setCpu_ir (c : Cpu) : (State.setCpu c s).ir = s.ir := rfl
@[simp] theorem State.setCpu_tapSel (c : Cpu) : (State.setCpu c s).tapSel = s.tapSel := rfl
@[simp] theorem State.setCpu_drShift (c : Cpu) : (State.setCpu c s).drShift = s.drShift := rfl
@[simp] theorem State.setCpu_mtap (c : Cpu) : (State.setCpu c s).mtap = s.mtap := rfl
@[simp] theorem State.setCpu_ecr (c : Cpu) : (State.setCpu c s).ecr = s.ecr := rfl
@[simp] theorem State.setCpu_ejData (c : Cpu) : (State.setCpu c s).ejData = s.ejData := rfl
@[simp] theorem State.setCpu_ejAddr (c : Cpu) : (State.setCpu c s).ejAddr = s.ejAddr := rfl
@[simp] theorem State.setCpu_fdCapt (c : Cpu) : (State.setCpu c s).fdCapt = s.fdCapt := rfl
@[simp] theorem State.setCpu_ejtagBoot (c : Cpu) : (State.setCpu c s).ejtagBoot = s.ejtagBoot := rfl
@[simp] theorem State.setCpu_cpu (c : Cpu) : (State.setCpu c s).cpu = c := rfl
@[simp] theorem State.setCpu_flash (c : Cpu) : (State.setCpu c s).flash = s.flash := rfl
@[simp] theorem State.setCpu_crc (c : Cpu) : (State.setCpu c s).crc = s.crc := rfl
@[simp] theorem State.setCpu_faults (c : Cpu) : (State.setCpu c s).faults = s.faults := rfl
@[simp] theorem State.setCpu_refused (c : Cpu) : (State.setCpu c s).refused = s.refused := rfl
@[simp] theorem State.setCpu_host (c : Cpu) : (State.setCpu c s).host = s.host := rfl
@[simp] theorem State.setCpu_agenda (c : Cpu) : (State.setCpu c s).agenda = s.agenda := rfl
@[simp] theorem State.setCpu_draws (c : Cpu) : (State.setCpu c s).draws = s.draws := rfl

@[simp] theorem State.setFlash_cfg (f : Flash) : (State.setFlash f s).cfg = s.cfg := rfl
@[simp] theorem State.setFlash_tapState (f : Flash) : (State.setFlash f s).tapState = s.tapState := rfl
@[simp] theorem State.setFlash_irShift (f : Flash) : (State.setFlash f s).irShift = s.irShift := rfl
@[simp] theorem State.setFlash_ir (f : Flash) : (State.setFlash f s).ir = s.ir := rfl
@[simp] theorem State.setFlash_tapSel (f : Flash) : (State.setFlash f s).tapSel = s.tapSel := rfl
@[simp] theorem State.setFlash_drShift (f : Flash) : (State.setFlash f s).drShift = s.drShift := rfl
@[simp] theorem State.setFlash_mtap (f : Flash) : (State.setFlash f s).mtap = s.mtap := rfl
@[simp] theorem State.setFlash_ecr (f : Flash) : (State.setFlash f s).ecr = s.ecr := rfl
@[simp] theorem State.setFlash_ejData (f : Flash) : (State.setFlash f s).ejData = s.ejData := rfl
@[simp] theorem State.setFlash_ejAddr (f : Flash) : (State.setFlash f s).ejAddr = s.ejAddr := rfl
@[simp] theorem State.setFlash_fdCapt (f : Flash) : (State.setFlash f s).fdCapt = s.fdCapt := rfl
@[simp] theorem State.setFlash_ejtagBoot (f : Flash) : (State.setFlash f s).ejtagBoot = s.ejtagBoot := rfl
@[simp] theorem State.setFlash_cpu (f : Flash) : (State.setFlash f s).cpu = s.cpu := rfl
@[simp] theorem State.setFlash_flash (f : Flash) : (State.setFlash f s).flash = f := rfl
@[simp] theorem State.setFlash_crc (f : Flash) : (State.setFlash f s).crc = s.crc := rfl
@[simp] theorem State.setFlash_faults (f : Flash) : (State.setFlash f s).faults = s.faults := rfl
@[simp] theorem State.setFlash_refused (f : Flash) : (State.setFlash f s).refused = s.refused := rfl
@[simp] theorem State.setFlash_host (f : Flash) : (State.setFlash f s).host = s.host := rfl
@[simp] theorem State.setFlash_agenda (f : Flash) : (State.setFlash f s).agenda = s.agenda := rfl
@[simp] theorem State.setFlash_draws (f : Flash) : (State.setFlash f s).draws = s.draws := rfl

@[simp] theorem State.setHost_cfg (h : Session) : (State.setHost h s).cfg = s.cfg := rfl
@[simp] theorem State.setHost_tapState (h : Session) : (State.setHost h s).tapState = s.tapState := rfl
@[simp] theorem State.setHost_irShift (h : Session) : (State.setHost h s).irShift = s.irShift := rfl
@[simp] theorem State.setHost_ir (h : Session) : (State.setHost h s).ir = s.ir := rfl
@[simp] theorem State.setHost_tapSel (h : Session) : (State.setHost h s).tapSel = s.tapSel := rfl
@[simp] theorem State.setHost_drShift (h : Session) : (State.setHost h s).drShift = s.drShift := rfl
@[simp] theorem State.setHost_mtap (h : Session) : (State.setHost h s).mtap = s.mtap := rfl
@[simp] theorem State.setHost_ecr (h : Session) : (State.setHost h s).ecr = s.ecr := rfl
@[simp] theorem State.setHost_ejData (h : Session) : (State.setHost h s).ejData = s.ejData := rfl
@[simp] theorem State.setHost_ejAddr (h : Session) : (State.setHost h s).ejAddr = s.ejAddr := rfl
@[simp] theorem State.setHost_fdCapt (h : Session) : (State.setHost h s).fdCapt = s.fdCapt := rfl
@[simp] theorem State.setHost_ejtagBoot (h : Session) : (State.setHost h s).ejtagBoot = s.ejtagBoot := rfl
@[simp] theorem State.setHost_cpu (h : Session) : (State.setHost h s).cpu = s.cpu := rfl
@[simp] theorem State.setHost_flash (h : Session) : (State.setHost h s).flash = s.flash := rfl
@[simp] theorem State.setHost_crc (h : Session) : (State.setHost h s).crc = s.crc := rfl
@[simp] theorem State.setHost_faults (h : Session) : (State.setHost h s).faults = s.faults := rfl
@[simp] theorem State.setHost_refused (h : Session) : (State.setHost h s).refused = s.refused := rfl
@[simp] theorem State.setHost_host (h : Session) : (State.setHost h s).host = h := rfl
@[simp] theorem State.setHost_agenda (h : Session) : (State.setHost h s).agenda = s.agenda := rfl
@[simp] theorem State.setHost_draws (h : Session) : (State.setHost h s).draws = s.draws := rfl

@[simp] theorem State.mark_cfg (f : Fault) : (State.mark f s).cfg = s.cfg := rfl
@[simp] theorem State.mark_tapState (f : Fault) : (State.mark f s).tapState = s.tapState := rfl
@[simp] theorem State.mark_irShift (f : Fault) : (State.mark f s).irShift = s.irShift := rfl
@[simp] theorem State.mark_ir (f : Fault) : (State.mark f s).ir = s.ir := rfl
@[simp] theorem State.mark_tapSel (f : Fault) : (State.mark f s).tapSel = s.tapSel := rfl
@[simp] theorem State.mark_drShift (f : Fault) : (State.mark f s).drShift = s.drShift := rfl
@[simp] theorem State.mark_mtap (f : Fault) : (State.mark f s).mtap = s.mtap := rfl
@[simp] theorem State.mark_ecr (f : Fault) : (State.mark f s).ecr = s.ecr := rfl
@[simp] theorem State.mark_ejData (f : Fault) : (State.mark f s).ejData = s.ejData := rfl
@[simp] theorem State.mark_ejAddr (f : Fault) : (State.mark f s).ejAddr = s.ejAddr := rfl
@[simp] theorem State.mark_fdCapt (f : Fault) : (State.mark f s).fdCapt = s.fdCapt := rfl
@[simp] theorem State.mark_ejtagBoot (f : Fault) : (State.mark f s).ejtagBoot = s.ejtagBoot := rfl
@[simp] theorem State.mark_cpu (f : Fault) : (State.mark f s).cpu = s.cpu := rfl
@[simp] theorem State.mark_flash (f : Fault) : (State.mark f s).flash = s.flash := rfl
@[simp] theorem State.mark_crc (f : Fault) : (State.mark f s).crc = s.crc := rfl
@[simp] theorem State.mark_faults (f : Fault) : (State.mark f s).faults = f :: s.faults := rfl
@[simp] theorem State.mark_refused (f : Fault) : (State.mark f s).refused = s.refused := rfl
@[simp] theorem State.mark_host (f : Fault) : (State.mark f s).host = s.host := rfl
@[simp] theorem State.mark_agenda (f : Fault) : (State.mark f s).agenda = s.agenda := rfl
@[simp] theorem State.mark_draws (f : Fault) : (State.mark f s).draws = s.draws := rfl

@[simp] theorem State.refuse_cfg (r : Refusal) : (State.refuse r s).cfg = s.cfg := rfl
@[simp] theorem State.refuse_tapState (r : Refusal) : (State.refuse r s).tapState = s.tapState := rfl
@[simp] theorem State.refuse_irShift (r : Refusal) : (State.refuse r s).irShift = s.irShift := rfl
@[simp] theorem State.refuse_ir (r : Refusal) : (State.refuse r s).ir = s.ir := rfl
@[simp] theorem State.refuse_tapSel (r : Refusal) : (State.refuse r s).tapSel = s.tapSel := rfl
@[simp] theorem State.refuse_drShift (r : Refusal) : (State.refuse r s).drShift = s.drShift := rfl
@[simp] theorem State.refuse_mtap (r : Refusal) : (State.refuse r s).mtap = s.mtap := rfl
@[simp] theorem State.refuse_ecr (r : Refusal) : (State.refuse r s).ecr = s.ecr := rfl
@[simp] theorem State.refuse_ejData (r : Refusal) : (State.refuse r s).ejData = s.ejData := rfl
@[simp] theorem State.refuse_ejAddr (r : Refusal) : (State.refuse r s).ejAddr = s.ejAddr := rfl
@[simp] theorem State.refuse_fdCapt (r : Refusal) : (State.refuse r s).fdCapt = s.fdCapt := rfl
@[simp] theorem State.refuse_ejtagBoot (r : Refusal) : (State.refuse r s).ejtagBoot = s.ejtagBoot := rfl
@[simp] theorem State.refuse_cpu (r : Refusal) : (State.refuse r s).cpu = s.cpu := rfl
@[simp] theorem State.refuse_flash (r : Refusal) : (State.refuse r s).flash = s.flash := rfl
@[simp] theorem State.refuse_crc (r : Refusal) : (State.refuse r s).crc = s.crc := rfl
@[simp] theorem State.refuse_faults (r : Refusal) : (State.refuse r s).faults = s.faults := rfl
@[simp] theorem State.refuse_refused (r : Refusal) : (State.refuse r s).refused = some r := rfl
@[simp] theorem State.refuse_host (r : Refusal) : (State.refuse r s).host = s.host := rfl
@[simp] theorem State.refuse_agenda (r : Refusal) : (State.refuse r s).agenda = s.agenda := rfl
@[simp] theorem State.refuse_draws (r : Refusal) : (State.refuse r s).draws = s.draws := rfl

end Sys2Proof.Machine
end

