-- ==== Sys2Proof/Laws/Ops.lean ====
section
/-! SUPPORT. One lemma per shared operation that says everything it can do; later proofs cite these and do not unfold the operation. -/

namespace Sys2Proof.Machine

open Host (Outcome)

/-! ## The shapes of a meaning -/

/-- Where a TAP instruction answers a next state, it is at Update-IR, Capture-DR or Update-DR, or it does nothing. -/
theorem tapInstr_next {code : IrCode} {atIr cap : State → State} {upd : State → Result} {s t : State}
    (h : tapInstr code atIr cap upd s = .next t) :
    (s.tapState = .uir ∧ t = atIr (s.latchIr code)) ∨ (s.tapState = .cdr ∧ t = cap s) ∨
      (s.tapState = .udr ∧ upd s = .next t) ∨
      (s.tapState ≠ .uir ∧ s.tapState ≠ .cdr ∧ s.tapState ≠ .udr ∧ t = s) := by
  unfold tapInstr at h
  split at h <;> simp_all

theorem ifAdmitted_next {code : IrCode} {run : State → Result} {s t : State}
    (h : ifAdmitted code run s = .next t) : s.cfg.admitGkForms = true ∧ run s = .next t := by
  unfold ifAdmitted at h
  split at h <;> simp_all

theorem unlessProtected_next {op : MchpOp} {run : State → Result} {s t : State}
    (h : unlessProtected op run s = .next t) : s.cpsNow = true ∧ run s.lookedAtCps = .next t := by
  unfold unlessProtected at h
  split at h <;> simp_all

theorem ecrWrite_next {n : Nat} {v : BitVec n} {s t : State} (h : ecrWrite v s = .next t) :
    ecrFault s.cfg.ecrLayout v = none ∧ t = ecrApply v s := by
  unfold ecrWrite at h
  split at h <;> simp_all

/-- The access key of 10 R32, right by right. -/
@[simp] theorem writeAs_r (old v : Bool) : writeAs .r old v = old := rfl
@[simp] theorem writeAs_rw (old v : Bool) : writeAs .rw old v = v := rfl
@[simp] theorem writeAs_w0 (old v : Bool) : writeAs .w0 old v = (old && v) := rfl
@[simp] theorem writeAs_w1 (old v : Bool) : writeAs .w1 old v = (old || v) := rfl

/-- A bit written with what it holds keeps it, whatever the access right. -/
@[simp] theorem writeAs_self (a : AccessRight) (b : Bool) : writeAs a b b = b := by cases a <;> simp

theorem ecrFault_none {n : Nat} {l : EcrLayout} {v : BitVec n} (h : ecrFault l v = none) :
    v.getLsbD l.perRst = false ∧ v.getLsbD l.prRst = false := by
  unfold ecrFault at h
  split at h
  · cases h
  · split at h
    · cases h
    · simp_all

theorem mchpExec_next {s t : State} (h : mchpExec s = .next t) :
    execMchpStatus s = .next t ∨ execMchpAssertRst s = .next t ∨ execMchpDeassertRst s = .next t ∨
      execMchpErase s = .next t ∨ execMchpFlashEnable s = .next t ∨ execMchpFlashDisable s = .next t := by
  unfold mchpExec at h
  dsimp only at h
  split at h <;> simp_all

/-! ## Accesses and the Control write -/

@[simp] theorem completeAccess_none {s : State} (h : s.cpu.pending = none) : completeAccess s = s := by
  simp [completeAccess, h]

theorem completeAccess_some {s : State} {a : Access} (h : s.cpu.pending = some a) :
    completeAccess s =
      { s with cpu := { s.cpu with pending := none, delivered := deliver a s.ejData s.cpu.delivered } } := by
  simp [completeAccess, h, State.setCpu]

/-- A completion changes the CPU's pending access and the words delivered, and nothing else. -/
theorem completeAccess_cases (s : State) :
    (s.cpu.pending = none ∧ completeAccess s = s) ∨
      ∃ a, s.cpu.pending = some a ∧
        completeAccess s = s.setCpu { s.cpu with
          pending := none, delivered := deliver a s.ejData s.cpu.delivered } := by
  cases h : s.cpu.pending with
  | none => exact .inl ⟨rfl, completeAccess_none h⟩
  | some a => exact .inr ⟨a, rfl, by simp [completeAccess, h]⟩

@[simp] theorem completeAccess_pending (s : State) : (completeAccess s).cpu.pending = none := by
  obtain ⟨h, e⟩ | ⟨a, -, e⟩ := completeAccess_cases s <;> simp_all

/-- The words delivered grow by at most one word. -/
theorem deliver_cases (a : Access) (w : Word) (ws : List Word) :
    deliver a w ws = ws ∨ deliver a w ws = ws ++ [w] := by
  unfold deliver
  cases a.kind <;> simp

/-! ## What the Control and Address registers show -/

section

variable {m n : Nat} (s : State) (d : BitVec n)

@[simp] theorem State.ecrBits_length : (s.ecrBits d).length = s.cfg.ecrLen := by simp [State.ecrBits]

theorem State.ecrBits_getD {i : Nat} (h : i < s.cfg.ecrLen) (b : Bool) : (s.ecrBits d).getD i b = s.ecrBit d i := by
  simp [State.ecrBits, h]

@[simp] theorem State.addrBits_length : (s.addrBits d).length = s.cfg.addrLen := by simp [State.addrBits]

theorem State.addrBits_getD {i : Nat} (h : i < s.cfg.addrLen) (b : Bool) : (s.addrBits d).getD i b = s.addrBit d i := by
  simp [State.addrBits, h]

@[simp] theorem State.allPartBits_length (c : BitVec m) (p : AllPart) :
    (s.allPartBits c d p).length = partWidth s.cfg p := by
  cases p <;> simp [State.allPartBits, partWidth]

/-- The chain of `ETAP_ALL` is as long as its three registers together, whatever their order. -/
theorem allOrder_width {cfg : Config} (h : allOrderLegal cfg.allOrder = true) :
    (cfg.allOrder.map (partWidth cfg)).sum = drWidth cfg .etapAll := by
  generalize cfg.allOrder = o at h
  match o, h with
  | [a, b, c], h => cases a <;> cases b <;> cases c <;> first | (simp [partWidth, drWidth]; omega) | exact absurd h (by decide)
  | [], h | [_], h | [_, _], h | _ :: _ :: _ :: _ :: _, h => simp [allOrderLegal] at h

end

/-- A Control write is a completion or none, and then the fields. -/
theorem ecrApply_cases {n : Nat} (v : BitVec n) (s : State) :
    ∃ u, (u = s ∨ u = completeAccess s) ∧ ecrApply v s = u.setEcr (ecrFields s.cfg.ecrLayout s.cfg.ecrAccess v s.ecr) := by
  unfold ecrApply
  by_cases hv : writeAs s.cfg.ecrAccess.prAcc s.prAcc (v.getLsbD s.cfg.ecrLayout.prAcc) = true
  · exact ⟨s, .inl rfl, by simp [hv]⟩
  · refine ⟨completeAccess s, .inr rfl, ?_⟩
    obtain ⟨h, e⟩ | ⟨a, -, e⟩ := completeAccess_cases s <;> simp [hv, e]

/-- A FastData transfer is a completion after, for a load, the word. -/
theorem fastdataTransfer_cases (w : Word) (s : State) :
    (s.cpu.pending = none ∧ fastdataTransfer w s = s) ∨
      ∃ u, (u = s ∨ u = s.setEjData w) ∧ fastdataTransfer w s = completeAccess u := by
  unfold fastdataTransfer
  cases h : s.cpu.pending with
  | none => exact .inl ⟨rfl, rfl⟩
  | some a => exact .inr (by by_cases hk : a.kind = .load <;> simp [hk])

/-! ## Replies and looks at CPS -/

/-- A reply is left, or its 8 bits become a draw. -/
theorem voidReply_cases (s : State) :
    voidReply s = s ∨ (s.host.rx.length = 8 ∧
      voidReply s = (s.setHost { s.host with rx := bitsOf (Config.free 8 s.draws) }).bump) := by
  unfold voidReply
  split <;> simp_all

theorem lookedAtCps_cases (s : State) : s.lookedAtCps = s ∨ s.lookedAtCps = s.bump := by
  unfold State.lookedAtCps
  split
  · exact .inl rfl
  · exact .inr rfl

/-! ## Turns and steps -/

/-- A marked state takes no step; every other state takes the next turn. -/
theorem step_next {s t : State} (h : step s = .next t) : s.faults = [] ∧ s.refused = none ∧ t = nextTurn s := by
  unfold step at h
  split at h
  · cases h
  · cases h
  · next hf hr => exact ⟨hf, hr, (Outcome.next.inj h).symm⟩

theorem step_unmarked {s : State} (hf : s.faults = []) (hr : s.refused = none) : step s = .next (nextTurn s) := by
  simp [step, hf, hr]

theorem unmarked_iff {s : State} : s.unmarked = true ↔ s.faults = [] ∧ s.refused = none := by
  simp [State.unmarked]

/-- What one TCK cycle does to the block: the action of the state it leaves and the move, or a mark. -/
theorem tck_cases (tms tdi : Bool) (s : State) :
    (∃ t, tapAction tdi s = .next t ∧ tck tms tdi s = { t with tapState := TapState.next s.tapState tms }) ∨
      (∃ f, tapAction tdi s = .fault f ∧ tck tms tdi s = s.mark f) ∨
      (∃ r, tapAction tdi s = .refused r ∧
        (tck tms tdi s = s.refuse r ∨ tck tms tdi s = (s.latchIr s.irShift.code).refuse r)) := by
  unfold tck
  cases h : tapAction tdi s with
  | next t => exact .inl ⟨t, rfl, rfl⟩
  | fault f => exact .inr (.inl ⟨f, rfl, rfl⟩)
  | refused r =>
    refine .inr (.inr ⟨r, rfl, ?_⟩)
    by_cases hu : s.tapState = .uir <;> simp [refuseAction, hu]

/-- A recorded TDO bit touches the host's receive buffer and at most one draw. -/
theorem recordTdo_cases (b : Option Bool) (s : State) :
    ∃ rx, recordTdo b s = s.setHost { s.host with rx := rx } ∨
      recordTdo b s = (s.setHost { s.host with rx := rx }).bump := by
  cases b with
  | some b => exact ⟨_, .inl rfl⟩
  | none => exact ⟨_, .inr rfl⟩

/-- A host cycle is a TCK cycle, and perhaps a bit recorded. -/
theorem cycle_cases (c : Cycle) (s : State) :
    cycle c s = tck c.tms c.tdi s ∨ cycle c s = recordTdo s.tdo (tck c.tms c.tdi s) := by
  unfold cycle
  dsimp only
  split <;> simp

/-- Where a code is run, the instruction the selected TAP decodes is run. -/
theorem runCode_ok {v : IrCode} {s : State} {i : Instr} (h : decodeIr s.cfg.codes s.tapSel v = .ok i) :
    runCode v s = exec i s := by
  simp [runCode, h]

end Sys2Proof.Machine
end

