-- ==== Sys2Proof/Laws/PerInstr.lean ====
section
/-! SUPPORT. The per-instruction family TableRoundTrip: under the default codes of 30_encoding.md R110 and R111 each instruction's word decodes
to it under every TAP whose column lists it. -/

namespace Sys2Proof.Laws.TableRoundTrip

/-- The default word of `i` decodes to `i` under each TAP that lists it. -/
def Statement (i : Instr) : Prop :=
  ∀ t, i.decodedBy t = true → decode defaultCodes t (encode defaultCodes i) = .ok i

theorem mtapIdcode : Statement .mtapIdcode := fun t h => by cases t <;> first | rfl | exact absurd h (by decide)
theorem swMtap : Statement .swMtap := fun t _ => by cases t <;> rfl
theorem swEtap : Statement .swEtap := fun t _ => by cases t <;> rfl
theorem mtapCommand : Statement .mtapCommand := fun t h => by cases t <;> first | rfl | exact absurd h (by decide)
theorem bypass : Statement .bypass := fun t _ => by cases t <;> rfl
theorem etapIdcode : Statement .etapIdcode := fun t h => by cases t <;> first | rfl | exact absurd h (by decide)
theorem etapImpcode : Statement .etapImpcode := fun t h => by cases t <;> first | rfl | exact absurd h (by decide)
theorem etapAddress : Statement .etapAddress := fun t h => by cases t <;> first | rfl | exact absurd h (by decide)
theorem etapData : Statement .etapData := fun t h => by cases t <;> first | rfl | exact absurd h (by decide)
theorem etapControl : Statement .etapControl := fun t h => by cases t <;> first | rfl | exact absurd h (by decide)
theorem etapAll : Statement .etapAll := fun t h => by cases t <;> first | rfl | exact absurd h (by decide)
theorem etapEjtagboot : Statement .etapEjtagboot := fun t h => by cases t <;> first | rfl | exact absurd h (by decide)
theorem etapNormalboot : Statement .etapNormalboot := fun t h => by cases t <;> first | rfl | exact absurd h (by decide)
theorem etapFastdata : Statement .etapFastdata := fun t h => by cases t <;> first | rfl | exact absurd h (by decide)
theorem mchpStatus : Statement .mchpStatus := fun t h => by cases t <;> first | rfl | exact absurd h (by decide)
theorem mchpAssertRst : Statement .mchpAssertRst := fun t h => by cases t <;> first | rfl | exact absurd h (by decide)
theorem mchpDeassertRst : Statement .mchpDeassertRst := fun t h => by cases t <;> first | rfl | exact absurd h (by decide)
theorem mchpErase : Statement .mchpErase := fun t h => by cases t <;> first | rfl | exact absurd h (by decide)
theorem mchpFlashEnable : Statement .mchpFlashEnable := fun t h => by cases t <;> first | rfl | exact absurd h (by decide)
theorem mchpFlashDisable : Statement .mchpFlashDisable := fun t h => by cases t <;> first | rfl | exact absurd h (by decide)

end Sys2Proof.Laws.TableRoundTrip
end

