-- ==== Sys2Proof/Laws/Turns.lean ====
section
/-! SUPPORT. What the host's bookkeeping, a run of cycles and the turns of the CPU and the flash agent can do. -/

namespace Sys2Proof.Machine

/-! ## The reply buffer and the end of a session -/

section

variable (s : State) (bs : List Byte) (e : Diagnostic)

@[simp] theorem State.newCommand_cfg : (State.newCommand s).cfg = s.cfg := rfl
@[simp] theorem State.newCommand_tapState : (State.newCommand s).tapState = s.tapState := rfl
@[simp] theorem State.newCommand_irShift : (State.newCommand s).irShift = s.irShift := rfl
@[simp] theorem State.newCommand_ir : (State.newCommand s).ir = s.ir := rfl
@[simp] theorem State.newCommand_tapSel : (State.newCommand s).tapSel = s.tapSel := rfl
@[simp] theorem State.newCommand_drShift : (State.newCommand s).drShift = s.drShift := rfl
@[simp] theorem State.newCommand_mtap : (State.newCommand s).mtap = s.mtap := rfl
@[simp] theorem State.newCommand_ecr : (State.newCommand s).ecr = s.ecr := rfl
@[simp] theorem State.newCommand_ejData : (State.newCommand s).ejData = s.ejData := rfl
@[simp] theorem State.newCommand_ejAddr : (State.newCommand s).ejAddr = s.ejAddr := rfl
@[simp] theorem State.newCommand_fdCapt : (State.newCommand s).fdCapt = s.fdCapt := rfl
@[simp] theorem State.newCommand_ejtagBoot : (State.newCommand s).ejtagBoot = s.ejtagBoot := rfl
@[simp] theorem State.newCommand_cpu : (State.newCommand s).cpu = s.cpu := rfl
@[simp] theorem State.newCommand_flash : (State.newCommand s).flash = s.flash := rfl
@[simp] theorem State.newCommand_crc : (State.newCommand s).crc = s.crc := rfl
@[simp] theorem State.newCommand_faults : (State.newCommand s).faults = s.faults := rfl
@[simp] theorem State.newCommand_refused : (State.newCommand s).refused = s.refused := rfl
@[simp] theorem State.newCommand_agenda : (State.newCommand s).agenda = s.agenda := rfl
@[simp] theorem State.newCommand_draws : s.newCommand.draws = s.draws + 1 := rfl
@[simp] theorem State.newCommand_host :
    s.newCommand.host = { s.host with reply := .fresh s.draws } := rfl

@[simp] theorem State.replied_cfg : (State.replied bs s).cfg = s.cfg := rfl
@[simp] theorem State.replied_tapState : (State.replied bs s).tapState = s.tapState := rfl
@[simp] theorem State.replied_irShift : (State.replied bs s).irShift = s.irShift := rfl
@[simp] theorem State.replied_ir : (State.replied bs s).ir = s.ir := rfl
@[simp] theorem State.replied_tapSel : (State.replied bs s).tapSel = s.tapSel := rfl
@[simp] theorem State.replied_drShift : (State.replied bs s).drShift = s.drShift := rfl
@[simp] theorem State.replied_mtap : (State.replied bs s).mtap = s.mtap := rfl
@[simp] theorem State.replied_ecr : (State.replied bs s).ecr = s.ecr := rfl
@[simp] theorem State.replied_ejData : (State.replied bs s).ejData = s.ejData := rfl
@[simp] theorem State.replied_ejAddr : (State.replied bs s).ejAddr = s.ejAddr := rfl
@[simp] theorem State.replied_fdCapt : (State.replied bs s).fdCapt = s.fdCapt := rfl
@[simp] theorem State.replied_ejtagBoot : (State.replied bs s).ejtagBoot = s.ejtagBoot := rfl
@[simp] theorem State.replied_cpu : (State.replied bs s).cpu = s.cpu := rfl
@[simp] theorem State.replied_flash : (State.replied bs s).flash = s.flash := rfl
@[simp] theorem State.replied_crc : (State.replied bs s).crc = s.crc := rfl
@[simp] theorem State.replied_faults : (State.replied bs s).faults = s.faults := rfl
@[simp] theorem State.replied_refused : (State.replied bs s).refused = s.refused := rfl
@[simp] theorem State.replied_agenda : (State.replied bs s).agenda = s.agenda := rfl
@[simp] theorem State.replied_draws : (State.replied bs s).draws = s.draws := rfl
@[simp] theorem State.replied_host :
    (State.replied bs s).host = { s.host with reply := s.host.reply.write bs } := rfl

@[simp] theorem State.fatal_cfg : (State.fatal e s).cfg = s.cfg := rfl
@[simp] theorem State.fatal_tapState : (State.fatal e s).tapState = s.tapState := rfl
@[simp] theorem State.fatal_irShift : (State.fatal e s).irShift = s.irShift := rfl
@[simp] theorem State.fatal_ir : (State.fatal e s).ir = s.ir := rfl
@[simp] theorem State.fatal_tapSel : (State.fatal e s).tapSel = s.tapSel := rfl
@[simp] theorem State.fatal_drShift : (State.fatal e s).drShift = s.drShift := rfl
@[simp] theorem State.fatal_mtap : (State.fatal e s).mtap = s.mtap := rfl
@[simp] theorem State.fatal_ecr : (State.fatal e s).ecr = s.ecr := rfl
@[simp] theorem State.fatal_ejData : (State.fatal e s).ejData = s.ejData := rfl
@[simp] theorem State.fatal_ejAddr : (State.fatal e s).ejAddr = s.ejAddr := rfl
@[simp] theorem State.fatal_fdCapt : (State.fatal e s).fdCapt = s.fdCapt := rfl
@[simp] theorem State.fatal_ejtagBoot : (State.fatal e s).ejtagBoot = s.ejtagBoot := rfl
@[simp] theorem State.fatal_cpu : (State.fatal e s).cpu = s.cpu := rfl
@[simp] theorem State.fatal_flash : (State.fatal e s).flash = s.flash := rfl
@[simp] theorem State.fatal_crc : (State.fatal e s).crc = s.crc := rfl
@[simp] theorem State.fatal_faults : (State.fatal e s).faults = s.faults := rfl
@[simp] theorem State.fatal_refused : (State.fatal e s).refused = s.refused := rfl
@[simp] theorem State.fatal_agenda : (State.fatal e s).agenda = s.agenda := rfl
@[simp] theorem State.fatal_draws : (State.fatal e s).draws = s.draws := rfl
@[simp] theorem State.fatal_host :
    (State.fatal e s).host =
      { s.host with fatal := some e, todo := if s.host.isOpen then [.op .sessionClose] else [] } := rfl

/-- The empty reply to a frame touches nothing but the reply's value and, where it is needed, the diagnostic and what is left to do. -/
@[simp] theorem State.emptyReply_crc (n : Bool) : (State.emptyReply n s).crc = s.crc := by cases n <;> rfl
@[simp] theorem State.emptyReply_received (n : Bool) : (State.emptyReply n s).host.received = none := by cases n <;> rfl
@[simp] theorem State.emptyReply_reply (n : Bool) : (State.emptyReply n s).host.reply = s.host.reply := by
  cases n <;> rfl
@[simp] theorem State.emptyReply_fatal (n : Bool) :
    (State.emptyReply n s).host.fatal = if n then some .frame else s.host.fatal := by cases n <;> rfl

@[simp] theorem State.frameReply_crc (c : Byte) : (State.frameReply c bs s).crc = s.crc := rfl
@[simp] theorem State.frameReply_host (c : Byte) :
    (State.frameReply c bs s).host = { s.host with received := some (c, bs), reply := s.host.reply.write (c :: bs) } :=
  rfl

end

/-- A byte of the reply stands where the command put it, and the bytes after the reply are those of before. -/
theorem ReplyBuffer.write_get (bs : List Byte) (r : ReplyBuffer) (i : Nat) (h : i < 64) :
    (r.write bs).bytes[i] = bs.getD i r.bytes[i] := by
  simp [ReplyBuffer.write]

@[simp] theorem ReplyBuffer.write_len (bs : List Byte) (r : ReplyBuffer) : (r.write bs).len = min bs.length 64 := by
  simp [ReplyBuffer.write]

@[simp] theorem ReplyBuffer.fresh_len (k : Nat) : (ReplyBuffer.fresh k).len = 0 := by simp [ReplyBuffer.fresh]

/-- A transport failure ends a session that has something left to do and no diagnostic yet, and is nothing otherwise. -/
theorem transportFails_cases (s : State) :
    (transportFails s = s ∧ (s.host.fatal ≠ none ∨ s.host.todo = [])) ∨
      (transportFails s = s.fatal .transport ∧ s.host.fatal = none) := by
  unfold transportFails
  split_ifs with h
  · exact .inr ⟨rfl, h.1⟩
  · exact .inl ⟨rfl, by tauto⟩

/-! ## The host -/

/-- `t` is `s` but for the host's session, the refusal mark, the CRC register and the number of draws. -/
def HostOnly (s t : State) : Prop := ∃ h r c k, t = { s with host := h, refused := r, crc := c, draws := k }

theorem peAligned_hostOnly (n : Nat) (a : Word) (ts : List HostTask) (s : State) : HostOnly s (peAligned n a ts s) := by
  unfold peAligned
  split_ifs <;> exact ⟨_, _, _, _, rfl⟩

theorem emptyReply_hostOnly (n : Bool) {s t : State} (h : HostOnly s t) : HostOnly s (t.emptyReply n) := by
  obtain ⟨_, _, _, _, rfl⟩ := h
  cases n <;> exact ⟨_, _, _, _, rfl⟩

/-- A host operation touches the session, the refusal mark, the CRC register and the number of draws only. -/
theorem runOp_hostOnly (o : HostOp) (s : State) : HostOnly s (runOp o s) := by
  cases o <;> simp only [runOp] <;> (repeat' split) <;>
    first
    | exact ⟨_, _, _, _, rfl⟩
    | exact peAligned_hostOnly _ _ _ _
    | exact emptyReply_hostOnly _ ⟨_, _, _, _, rfl⟩

/-- So does every task of the host that is no TCK cycle. -/
theorem runTask_hostOnly (t : HostTask) (s : State) (h : ∀ c, t ≠ .cycle c) : HostOnly s (runTask t s) := by
  cases t with
  | cycle c => exact absurd rfl (h c)
  | op o => exact runOp_hostOnly o s
  | _ =>
    simp only [runTask]
    (repeat' split) <;> first | exact ⟨_, _, _, _, rfl⟩ | exact emptyReply_hostOnly _ ⟨_, _, _, _, rfl⟩

/-- The tasks of a `crc16` leave its value in the register, and the tasks after them to do. -/
theorem crcTasks_turns (seed : Half) (bytes : List Byte) (rest : List HostTask) (s : State)
    (h : s.host.todo = crcTasks seed bytes ++ rest) :
    hostTurn^[bytes.length + 1] s =
      { s with crc := crc16 seed bytes, host := { s.host with todo := rest } } := by
  have byBytes : ∀ (bytes : List Byte) (s : State),
      s.host.todo = (bytes.map fun b => HostTask.op (.crcByte b)) ++ rest → hostTurn^[bytes.length] s =
        { s with crc := bytes.foldl crcByte s.crc, host := { s.host with todo := rest } } := by
    intro bytes
    induction bytes with
    | nil => intro s h; simp at h; simp [← h]
    | cons b bs ih =>
      intro s h
      have step : hostTurn s =
          { s with crc := crcByte s.crc b, host := { s.host with todo := (bs.map fun b => .op (.crcByte b)) ++ rest } } := by
        simp [hostTurn, h, runTask, runOp, State.setHost]
      rw [List.length_cons, Function.iterate_succ_apply, step, ih _ rfl]
      rfl
  have first : hostTurn s =
      { s with crc := seed, host := { s.host with todo := (bytes.map fun b => .op (.crcByte b)) ++ rest } } := by
    simp [hostTurn, h, crcTasks, runTask, runOp, State.setHost]
  rw [Function.iterate_succ_apply, first, byBytes bytes _ rfl]
  rfl

/-! ## Runs of cycles -/

theorem cycles_append (a b : List Cycle) (s : State) (h : s.unmarked = true) :
    cycles (a ++ b) s = if (cycles a s).unmarked = true then cycles b (cycles a s) else cycles a s := by
  induction a generalizing s with
  | nil => simp [cycles, h]
  | cons c cs ih =>
    simp only [List.cons_append, cycles]
    by_cases hu : (cycle c s).unmarked = true
    · simp only [hu, if_true]
      exact ih _ hu
    · simp [hu]

/-- A cycle without a data bit in a state without an action moves the TAP state. -/
theorem cycle_quiet {s : State} (tms : Bool)
    (h : s.tapState ∈ [TapState.rti, .sds, .sis, .e1d, .pdr, .e2d, .e1i, .pir, .e2i]) :
    cycle (quiet tms) s = { s with tapState := TapState.next s.tapState tms } := by
  simp only [List.mem_cons, List.not_mem_nil, or_false] at h
  rcases h with h | h | h | h | h | h | h | h | h <;> simp [cycle, tck, tapAction, h, quiet]

/-! ## The CPU and the flash -/

/-- A turn of the CPU changes nothing, posts an access, faults, leaves debug mode, or takes the debug exception. -/
theorem cpuTurn_cases (m : CpuMove) (s : State) :
    cpuTurn m s = s ∨
      (∃ a, m = .post a ∧ mayPost a s = true ∧ s.ecr.probEn = true ∧ cpuTurn m s = postAccess a s) ∨
      (∃ a, m = .post a ∧ cpuTurn m s = s.mark .debugWithoutProbEn) ∨
      (s.cpu.mode = .debug ∧ s.cpu.pending = none ∧ cpuTurn m s = leaveDebug s) ∨
      (s.cpu.mode = .run ∧ cpuTurn m s = debugExceptionEntry s) := by
  cases m <;> simp only [cpuTurn]
  · exact .inl trivial
  · split_ifs with h1 h2
    · exact .inr (.inl ⟨_, rfl, h1, h2, rfl⟩)
    · exact .inr (.inr (.inl ⟨_, rfl, rfl⟩))
    · exact .inl rfl
  · split_ifs with h1
    · exact .inr (.inr (.inr (.inl ⟨h1.1, h1.2, rfl⟩)))
    · exact .inl rfl
  · split_ifs with h1
    · exact .inr (.inr (.inr (.inr ⟨h1.1, rfl⟩)))
    · exact .inl rfl

/-- A turn of the flash agent changes the flash, the device's flags and at most one draw. -/
theorem flashTurn_cases (m : FlashMove) (s : State) :
    ∃ f g k, flashTurn m s = { s with flash := f, mtap := g, draws := k } := by
  cases m <;> simp only [flashTurn] <;> split_ifs <;> exact ⟨_, _, _, rfl⟩

/-- The release of the device reset changes the device's flags, the CPU and the Control fields; it delivers no word and keeps the access. -/
theorem releaseReset_cases (s : State) :
    ∃ m c e, releaseReset s = { s with mtap := m, cpu := c, ecr := e } ∧ c.delivered = s.cpu.delivered ∧
      c.pending = s.cpu.pending := by
  unfold releaseReset cpuResetExit debugExceptionEntry
  dsimp only
  split_ifs <;> exact ⟨_, _, _, rfl, rfl, rfl⟩

end Sys2Proof.Machine
end

