-- ==== Sys2Proof/Tests/Slice0.lean ====
section
/-! SUPPORT. The model's own tests: ill-formed terms, written-out words, one step or scan from the vectors of 95_test_vectors.md, and for each
statement of the certificate a state that meets its hypotheses. -/

namespace Sys2Proof.Tests

open Sys2Proof.Machine

/-! ## Small states -/

/-- The reset state moved to a TAP state under a TAP. -/
def inState (t : TapState) (u : Tap) : State := { State.reset with tapState := t, tapSel := u }

/-- The same, configured and unprotected (41 R205). -/
def ready (t : TapState) (u : Tap) : State :=
  { inState t u with mtap := ⟨false, false, false, true, true, true, false⟩ }

/-- The same, code-protected. -/
def locked (t : TapState) (u : Tap) : State :=
  { inState t u with mtap := ⟨false, false, false, true, false, true, false⟩ }

/-- A 4-byte access. -/
def access (k : AccessKind) (addr : Word) : Access := ⟨k, addr, .word, 0xCAFEF00D⟩

/-- The CPU in debug mode with an access pending, ProbEn = ProbTrap = 1, ROCC = 0, a marked word in the Data register. -/
def waiting (t : TapState) (a : Access) : State :=
  { ready t .etap with
    cpu := ⟨.debug, some a, [], 0xFF200200, false, true⟩
    ecr := ⟨false, false, false, true, true, false⟩
    ejData := 0xCAFEF00D
    ejAddr := a.addr }

/-- The forms of general knowledge admitted (00 R11). -/
def admitting (s : State) : State := { s with cfg := { s.cfg with admitGkForms := true } }

/-- A value in the shift register. -/
def holding {w : Nat} (v : BitVec w) (s : State) : State := { s with drShift := bitsOf v }

/-- A session and what it has left to do. -/
def session (sel : Option Tap) (ir : Option IrCode) (ts : List HostTask) (s : State) : State :=
  { s with host := { s.host with hostSel := sel, hostIr := ir, todo := ts } }

/-- The host about to do the tasks. -/
def todo (ts : List HostTask) (s : State) : State := { s with host := { s.host with todo := ts } }

/-- An agent about to take its turn. -/
def turn (t : Turn) (s : State) : State := { s with agenda := [t] }

/-- The state a step answers; the state itself where it answers none. -/
def after (s : State) : State :=
  match step s with
  | .next t => t
  | .fault _ | .refused _ => s

/-- The state an instruction answers; the state itself where it answers none. -/
def ran (i : Instr) (s : State) : State :=
  match exec i s with
  | .next t => t
  | .fault _ | .refused _ => s

/-! ## Ill-formed terms -/

theorem test_wellFormed_refuses_etapData_under_mtap : WellFormed defaultConfig .mtap .etapData = false := by decide
theorem test_wellFormed_refuses_bypass_unadmitted : WellFormed defaultConfig .mtap .bypass = false := by decide
theorem test_wellFormed_admits_bypass : WellFormed { defaultConfig with admitGkForms := true } .etap .bypass = true := by
  decide
theorem test_codes_refuse_a_shared_mtap_code :
    Codes.legal { defaultCodes with mtapIdcode := 0x07 } = false := by decide
theorem test_codes_refuse_a_shared_etap_code :
    Codes.legal { defaultCodes with etapData := 0x0A } = false := by decide
theorem test_codes_refuse_a_shared_command : Codes.legal { defaultCodes with mchpErase := 0xD0 } = false := by decide
theorem test_codes_accept_the_defaults : defaultCodes.legal = true := by decide
theorem test_ecrLayout_refuses_an_overlap : EcrLayout.legal 32 { defaultEcrLayout with dm := 30 } = false := by decide
theorem test_ecrLayout_refuses_bit_32 : EcrLayout.legal 32 { defaultEcrLayout with rocc := 32 } = false := by decide
/-- The default layout uses bit 31, and a scan carries at most 64 bits. -/
theorem test_ecrLayout_refuses_other_lengths :
    EcrLayout.legal 31 defaultEcrLayout = false ∧ EcrLayout.legal 65 defaultEcrLayout = false := by decide
theorem test_statusLayout_refuses_an_overlap : StatusLayout.legal { defaultStatusLayout with faen := 0 } = false := by
  decide
theorem test_statusLayout_refuses_bit_8 : StatusLayout.legal { defaultStatusLayout with cps := 8 } = false := by decide
theorem test_allOrder_refuses_a_repeat : allOrderLegal [.data, .data, .control] = false := by decide
theorem test_allOrder_refuses_two_parts : allOrderLegal [.data, .control] = false := by decide
theorem test_config_refuses_a_bad_code_table :
    Config.legal { defaultConfig with codes := { defaultCodes with etapData := 0x0A } } = false := by decide
theorem test_config_refuses_another_makers_idcode : Config.legal { defaultConfig with deviceIdcode := 0x04307055 } = false := by
  decide
theorem test_config_refuses_a_value_outside_its_mask :
    Config.legal { defaultConfig with statusRevised := ⟨0x0C, 0x09⟩ } = false := by decide
theorem test_config_accepts_the_defaults : defaultConfig.legal = true := by decide

/-! ## Words written out from 30 R110 and R111 -/

theorem test_decode_mtapIdcode : decodeIr defaultCodes .mtap 0b00001 = .ok .mtapIdcode := by decide
theorem test_decode_swMtap : ∀ t, decodeIr defaultCodes t 0b00100 = .ok .swMtap := by intro t; cases t <;> decide
theorem test_decode_swEtap : ∀ t, decodeIr defaultCodes t 0b00101 = .ok .swEtap := by intro t; cases t <;> decide
theorem test_decode_mtapCommand : decodeIr defaultCodes .mtap 0b00111 = .ok .mtapCommand := by decide
theorem test_decode_bypass : ∀ t, decodeIr defaultCodes t 0b11111 = .ok .bypass := by intro t; cases t <;> decide
theorem test_decode_etapIdcode : decodeIr defaultCodes .etap 0b00001 = .ok .etapIdcode := by decide
theorem test_decode_etapImpcode : decodeIr defaultCodes .etap 0b00011 = .ok .etapImpcode := by decide
theorem test_decode_etapAddress : decodeIr defaultCodes .etap 0b01000 = .ok .etapAddress := by decide
theorem test_decode_etapData : decodeIr defaultCodes .etap 0b01001 = .ok .etapData := by decide
theorem test_decode_etapControl : decodeIr defaultCodes .etap 0b01010 = .ok .etapControl := by decide
theorem test_decode_etapAll : decodeIr defaultCodes .etap 0b01011 = .ok .etapAll := by decide
theorem test_decode_etapEjtagboot : decodeIr defaultCodes .etap 0b01100 = .ok .etapEjtagboot := by decide
theorem test_decode_etapNormalboot : decodeIr defaultCodes .etap 0b01101 = .ok .etapNormalboot := by decide
theorem test_decode_etapFastdata : decodeIr defaultCodes .etap 0b01110 = .ok .etapFastdata := by decide
theorem test_decode_mchpStatus : decodeMchp defaultCodes 0b00000000 = .ok .mchpStatus := by decide
theorem test_decode_mchpAssertRst : decodeMchp defaultCodes 0b11010001 = .ok .mchpAssertRst := by decide
theorem test_decode_mchpDeassertRst : decodeMchp defaultCodes 0b11010000 = .ok .mchpDeassertRst := by decide
theorem test_decode_mchpErase : decodeMchp defaultCodes 0b11111100 = .ok .mchpErase := by decide
theorem test_decode_mchpFlashEnable : decodeMchp defaultCodes 0b11111110 = .ok .mchpFlashEnable := by decide
theorem test_decode_mchpFlashDisable : decodeMchp defaultCodes 0b11111101 = .ok .mchpFlashDisable := by decide

theorem test_decode_refuses_control_under_mtap :
    decodeIr defaultCodes .mtap 0b01010 = .error (.unlistedIr .mtap 0b01010) := by decide
theorem test_decode_refuses_an_unlisted_command :
    decodeMchp defaultCodes 0b01010101 = .error (.unlistedCommand 0b01010101) := by decide
theorem test_decode_refuses_a_command_under_etap :
    decode defaultCodes .etap (.mchp 0b11111100) = .error (.commandUnderEtap 0b11111100) := by decide
theorem test_decode_refuses_a_wide_code :
    decodeIrByte defaultCodes .etap 0b00101010 = .error (.tooWide 0b00101010) := by decide
theorem test_tableWord_etapFastdata : decodeTableWord 8 0x0E = some .etapFastdata := by decide
theorem test_tableWord_mchpErase : decodeTableWord 8 0xFC = some .mchpErase := by decide
theorem test_tableWord_unlisted : decodeTableWord 8 0x55 = none := by decide

/-- A placed word is the instruction the next step runs (30 R110). -/
theorem test_fetchWord_ejtagboot : (after (State.reset.withFetchWord 8 0x0C)).ejtagBoot = true := by decide
theorem test_fetchWord_erase : (after (State.reset.withFetchWord 8 0xFC)).mtap.fcBusy = true := by decide

/-! ## Instructions (95, Part 2) -/

/-- V-SCAN-7 -/
theorem test_swMtap_selects : (ran .swMtap (inState .uir .etap)).tapSel = .mtap := by decide
theorem test_swMtap_captures_zero : (ran .swMtap (inState .cdr .mtap)).drShift = [false] := by decide
/-- V-SCAN-7 -/
theorem test_swEtap_selects : (ran .swEtap (inState .uir .mtap)).tapSel = .etap := by decide
theorem test_swEtap_keeps_the_boot_flag :
    (ran .swEtap { inState .uir .mtap with ejtagBoot := true }).ejtagBoot = true := by decide
/-- V-MTAP-13 -/
theorem test_mtapIdcode_captures : ofBits 32 (ran .mtapIdcode (inState .cdr .mtap)).drShift = 0x04307053 := by decide
/-- V-SCAN-2: a short scan returns the low byte. -/
theorem test_mtapIdcode_short_scan :
    ofBits 8 (cycles (Scan.cycles (.dr (bitsOf 0xFF#8) true)) { inState .rti .mtap with ir := 0x01 }).host.rx = 0x53 := by
  decide
/-- V-MTAP-1: CPS and CFGRDY are set, the other four flags clear (0x88). -/
theorem test_mtapCommand_captures_status :
    let bs := (ran .mtapCommand (ready .cdr .mtap)).drShift
    (bs.getD 7 false, bs.getD 5 true, bs.getD 3 false, bs.getD 2 true, bs.getD 1 true, bs.getD 0 true)
      = (true, false, true, false, false, false) := by decide
/-- V-MTAP-9 -/
theorem test_mtapCommand_unlisted :
    (after (todo [.cycle (quiet false)] (holding 0x55#8 { ready .udr .mtap with ir := 0x07 }))).faults
      = [.undefinedMchpCmd 0x55] := by decide
theorem test_bypass_captures_zero : (ran .bypass (admitting (inState .cdr .mtap))).drShift = [false] := by decide
/-- V-SCAN-6 -/
theorem test_bypass_refused :
    (after (todo [.cycle (quiet false)] { inState .uir .etap with irShift := .ofCode 0x1F })).refused
      = some (.unmodelledIr .etap 0x1F) := by decide
theorem test_etapIdcode_latches : (ran .etapIdcode (admitting (inState .uir .etap))).ir = 0x01 := by decide
theorem test_etapImpcode_latches : (ran .etapImpcode (admitting (inState .uir .etap))).ir = 0x03 := by decide
theorem test_etapAddress_captures_the_pending_address :
    ofBits 32 (ran .etapAddress (admitting (waiting .cdr (access .load 0xFF200004)))).drShift = 0xFF200004 := by decide
theorem test_etapAddress_is_read_only :
    (ran .etapAddress (holding 0x12345678#32 (admitting (waiting .udr (access .load 0xFF200004))))).ejAddr
      = 0xFF200004 := by decide
/-- V-DATA-1 -/
theorem test_etapData_updates :
    (ran .etapData (holding 0x24840004#32 (waiting .udr (access .fetch 0xFF200200)))).ejData = 0x24840004 := by decide
/-- V-DATA-2 -/
theorem test_etapData_captures :
    ofBits 32 (ran .etapData (waiting .cdr (access .store 0xFF200000))).drShift = 0xCAFEF00D := by decide
/-- V-ECR-1: the eleven bits the rules fix, of 0x4004C008. -/
theorem test_etapControl_captures :
    let bs := (ran .etapControl (waiting .cdr (access .fetch 0xFF200200))).drShift
    ([31, 30, 29, 20, 19, 18, 16, 15, 14, 12, 3].map fun k => bs.getD k false)
      = [false, true, false, false, false, true, false, true, true, false, true] := by decide
/-- V-ECR-4 -/
theorem test_etapControl_release_delivers :
    (ran .etapControl (holding 0x0000C000#32 (waiting .udr (access .fetch 0xFF200200)))).cpu.delivered
      = [0xCAFEF00D] := by decide
/-- 42 R229 with the default order: the Control part at bits [31:0], the Data part at [63:32]. -/
theorem test_etapAll_reads_the_parts :
    allPart defaultConfig .data defaultConfig.allOrder (bitsOf (0x11111111#32 ++ 0x22222222#32 ++ 0x0000C000#32))
      = bitsOf 0x22222222#32 := by decide
theorem test_etapAll_captures_data :
    ((ran .etapAll (admitting (waiting .cdr (access .store 0xFF200000)))).drShift.drop 32).take 32
      = bitsOf 0xCAFEF00D#32 := by decide
theorem test_etapEjtagboot_arms : (ran .etapEjtagboot (inState .uir .etap)).ejtagBoot = true := by decide
theorem test_etapEjtagboot_acts_at_update_ir_only : (ran .etapEjtagboot (inState .udr .etap)).ejtagBoot = false := by
  decide
theorem test_etapNormalboot_disarms :
    (ran .etapNormalboot (admitting { inState .uir .etap with ejtagBoot := true })).ejtagBoot = false := by decide
/-- V-FD-1: the whole scan serves the load. -/
theorem test_etapFastdata_serves_a_load :
    (cycles (Scan.cycles (.dr (scanBits 33 0x2468ACF0) false))
      { waiting .rti (access .load 0xFF200000) with ir := 0x0E }).cpu.delivered = [0x12345678] := by decide
/-- V-FD-4: a 1 in the synchronisation bit completes nothing. -/
theorem test_etapFastdata_sync_one :
    (ran .etapFastdata (holding (0x12345678#32 ++ 1#1)
      { waiting .udr (access .load 0xFF200000) with fdCapt := true })).cpu.pending.isSome = true := by decide
theorem test_mchpStatus_keeps_the_flags : (ran .mchpStatus (ready .udr .mtap)).mtap = (ready .udr .mtap).mtap := by
  decide
/-- V-MTAP-2, V-RST-3 -/
theorem test_mchpAssertRst_drops_the_access :
    let t := ran .mchpAssertRst (waiting .udr (access .fetch 0xFF200200))
    (t.mtap.devRst, t.cpu.mode, t.cpu.pending, t.ecr.rocc, t.cpu.delivered) = (true, .reset, none, true, []) := by decide
/-- V-MTAP-10 -/
theorem test_mchpAssertRst_protected :
    (after (todo [.cycle (quiet false)] (holding 0xD1#8 { locked .udr .mtap with ir := 0x07 }))).faults
      = [.protectedCmd .assertRst] := by decide
/-- V-MTAP-3 -/
theorem test_mchpDeassertRst_enters_debug :
    let s := ran .mchpAssertRst (ready .udr .mtap)
    let t := ran .mchpDeassertRst { s with ejtagBoot := true }
    (t.mtap.devRst, t.cpu.mode, t.cpu.pc, t.ecr.probEn, t.ecr.probTrap, t.ecr.ejtagBrk)
      = (false, .debug, 0xFF200200, true, true, false) := by decide
/-- V-MTAP-4 -/
theorem test_mchpDeassertRst_runs :
    let t := ran .mchpDeassertRst (ran .mchpAssertRst (ready .udr .mtap))
    (t.mtap.devRst, t.cpu.mode, t.ecr.probEn, t.ecr.probTrap) = (false, .run, false, false) := by decide
/-- V-MTAP-5, V-MTAP-10 -/
theorem test_mchpErase_starts :
    let t := ran .mchpErase (locked .udr .mtap)
    (t.mtap.fcBusy, t.mtap.cfgRdy, t.flash.eraseRunning) = (true, false, true) := by decide
/-- V-MTAP-6 -/
theorem test_mchpFlashEnable_sets : (ran .mchpFlashEnable (ready .udr .mtap)).mtap.faen = true := by decide
/-- V-MTAP-11: protection before the family. -/
theorem test_mchpFlashEnable_protected_mz :
    let s := locked .udr .mtap
    exec .mchpFlashEnable { s with cfg := { s.cfg with family := .mz } } = .fault (.protectedCmd .flashEnable) := rfl
/-- V-MTAP-7 -/
theorem test_mchpFlashDisable_clears :
    (ran .mchpFlashDisable (ran .mchpFlashEnable (ready .udr .mtap))).mtap.faen = false := by decide
/-- V-MTAP-8 -/
theorem test_mchpFlashDisable_mz :
    let s := ready .udr .mtap
    exec .mchpFlashDisable { s with cfg := { s.cfg with family := .mz } } = .fault .mzFlashDisable := rfl

/-! ## The controller, the agents, the CRC unit, the host (95, Part 2) -/

/-- V-FSM-5 -/
theorem test_tck_shift :
    let t := tck false true { inState .sdr .mtap with drShift := [true, false, true] }
    (t.drShift, ({ inState .sdr .mtap with drShift := [true, false, true] } : State).tdo)
      = ([false, true, true], some true) := by decide
/-- V-FSM-2 -/
theorem test_irScan_has_eleven_cycles :
    ((Scan.cycles (.ir 0x04)).map Cycle.tms)
      = [true, true, false, false, false, false, false, false, true, true, false] := by decide
/-- V-CPU-1 -/
theorem test_cpu_vector_fetch :
    let s := { waiting .rti (access .fetch 0) with cpu := ⟨.debug, none, [], 0xFF200200, true, false⟩ }
    (cpuTurn (.post (access .fetch 0xFF200200)) s).ejAddr = 0xFF200200 := by decide
/-- 10 R32, 70 R403: with no access pending PRnW reads 0 after a power-on and after a device reset, whatever is drawn. -/
theorem test_prnw_reads_zero_after_a_reset :
    State.reset.prnw true = false ∧ (ran .mchpAssertRst (waiting .udr (access .store 0xFF200000))).prnw true = false := by
  decide
theorem test_cpu_vector_fetch_comes_first :
    let s := { waiting .rti (access .fetch 0) with cpu := ⟨.debug, none, [], 0xFF200200, true, false⟩ }
    (cpuTurn (.post (access .load 0xFF200000)) s).cpu.pending = none := by decide
/-- V-ECR-8 -/
theorem test_cpu_takes_the_request :
    let s := { ready .rti .etap with ecr := ⟨false, false, false, true, true, true⟩ }
    let t := cpuTurn .takeDebug s
    (t.cpu.mode, t.ecr.ejtagBrk, t.cpu.pc) = (.debug, false, 0xFF200200) := by decide
set_option maxRecDepth 20000 in
/-- V-CRC-6 -/
theorem test_crc_check_value :
    crc16 0xFFFF [0x31, 0x32, 0x33, 0x34, 0x35, 0x36, 0x37, 0x38, 0x39] = 0x29B1 := by decide
set_option maxRecDepth 20000 in
theorem test_crc_zero_seed : crc16 0x0000 [0x78, 0x56, 0x34, 0x12] = 0xD0FA := by decide
set_option maxRecDepth 20000 in
/-- V-FRM-3 -/
theorem test_frame_encode :
    encodeFrame 0x0000 0x02 [0x01, 0x04, 0x10]
      = [0x01, 0x02, 0x10, 0x01, 0x10, 0x04, 0x10, 0x10, 0xAD, 0x10, 0x04, 0x04] := by decide
set_option maxRecDepth 20000 in
/-- V-FRM-6: DLE before an ordinary byte. -/
theorem test_frame_decode :
    decodeFrame 0x0000 [0x01, 0x10, 0x05, 0x12, 0x34, 0x36, 0xF8, 0x04] = some (0x05, [0x12, 0x34]) := by decide
set_option maxRecDepth 20000 in
/-- V-FRM-6: the CRC of the frame, high byte last, is the CRC of its command and data. -/
theorem test_frame_parts :
    frameParts [0x01, 0x10, 0x05, 0x12, 0x34, 0x36, 0xF8, 0x04] = some (0x05, [0x12, 0x34], 0xF836) ∧
      crc16 0x0000 [0x05, 0x12, 0x34] = 0xF836 := by decide
/-- V-HOST-1 -/
theorem test_statusOk_revised :
    ([0x88, 0x8A, 0x8C, 0x80, 0x08, 0xA8].map fun b : Byte => statusOk defaultConfig (bitsOf b))
      = [true, true, false, false, true, true] := by decide
theorem test_statusOk_oldway :
    ([0x88, 0x8A, 0x8C, 0x80, 0x08, 0xA8].map fun b : Byte =>
      statusOk { defaultConfig with statusCheck := .oldway } (bitsOf b)) = [false, true, false, false, false, false] := by
  decide
/-- V-HOST-2 -/
theorem test_eraseDone :
    ([0x84, 0x80, 0x88, 0x8C].map fun b : Byte => eraseDone defaultConfig (bitsOf b)) = [false, false, true, false] := by
  decide
/-- V-HOST-3, V-SRC-9 -/
theorem test_loader_words :
    [luiA0 (hi16 0xA0000800), oriA0 (lo16 0xA0000800), luiT9 0xA000, oriT9 0x0800, luiA2 0x1234, oriA2 0x5678]
      = [0x3C04A000, 0x34840800, 0x3C19A000, 0x37390800, 0x3C061234, 0x34C65678] := by decide
/-- 10 R32: with PrAcc at R and EjtagBrk at RW a write of 0 completes no access and clears the request. -/
theorem test_access_rights_are_parameters :
    let s := waiting .udr (access .fetch 0xFF200200)
    let t := { s with
      cfg := { s.cfg with ecrAccess := { defaultEcrAccess with prAcc := .r, ejtagBrk := .rw } }
      ecr := { s.ecr with ejtagBrk := true } }
    (ecrApply 0x0000C000#32 t).cpu.pending = t.cpu.pending ∧ (ecrApply 0x0000C000#32 t).ecr.ejtagBrk = false ∧
      (ecrApply 0x0000C000#32 s).cpu.pending = none := by decide
/-- 30 R114 -/
theorem test_control_words :
    [pollWord defaultEcrLayout, releaseWord defaultEcrLayout] = [0x0004C000, 0x0000C000] := by decide
/-- A Control and an Address register of other lengths (00 R6). -/
theorem test_register_lengths_are_parameters :
    let s := admitting (waiting .cdr (access .load 0xFF200004))
    let u := { s with cfg := { s.cfg with ecrLen := 40, addrLen := 16 } }
    ((ran .etapControl u).drShift.length, ofBits 16 (ran .etapAddress u).drShift, (ran .etapAddress u).drShift.length,
      (ran .etapAll u).drShift.length) = (40, 0x0004, 16, 88) := by decide
/-- V-HOST-4 -/
theorem test_pe_words :
    [peWord (peCode defaultPeCodes .read) 4, peWord (peCode defaultPeCodes .getCrc) 0,
      peWord (peCode defaultPeCodes .execVersion) 0, peWord (peCode defaultPeCodes .rowProgram) 32]
      = [0x00010004, 0x00080000, 0x00070000, 0x00000020] := by decide
/-- V-HOST-5: a quad word at 0x9D000010 is accepted. -/
theorem test_quad_word_aligned :
    let s := ready .rti .etap
    (after (todo [.op (.peQuadWordProgram 0x9D000010 1 2 3 4)]
      { s with host := { s.host with useExecutive := true } })).refused = none := by decide

/-- 10 R41: the reply of a reading scan stands in the buffer, and the next command ends it. -/
theorem test_reply_is_not_retained :
    let s := after (todo [.endScan] { inState .rti .mtap with host := { State.reset.host with rx := bitsOf 0x88#8 } })
    (s.host.reply.len, s.host.reply.bytes[0], (after (todo [.op (.dr 8 0 false)] s)).host.reply.len,
      (after (todo [.op (.scan [] 8 0 false)] s)).host.reply.len) = (1, 0x88, 1, 0) := by decide +kernel
/-- 43 R304, 60 R372: a failed transport leaves the close of an open session, and nothing once the session is closed. -/
theorem test_close_runs_once :
    let s := todo [.op .tapReset] (inState .rti .mtap)
    let o := { s with host := { s.host with isOpen := true } }
    let f := after (turn .transportFail o)
    let c := after f
    ((after (turn .transportFail s)).host.todo, f.host.todo, c.host.isOpen, c.host.todo,
      (after (turn .transportFail c)).host.todo) = ([], [.op .sessionClose], false, [], []) := by decide
theorem test_transport_keeps_the_first_diagnostic :
    let s := todo [.op .sessionClose] (inState .rti .mtap)
    let f := { s with host := { s.host with isOpen := true, fatal := some .eraseTimeout } }
    (after (turn .transportFail f)).host.fatal = some .eraseTimeout := by decide

/-! ## Witnesses: a state for the hypotheses of each statement, clause by clause

A statement without hypotheses has none here. Where a clause asks only for a TAP state, one theorem shows it for the statements of that shape. -/

theorem test_witness_tap_states :
    (inState .uir .mtap).tapState = .uir ∧ (inState .cdr .mtap).tapState = .cdr ∧ (inState .udr .mtap).tapState = .udr := by
  decide

theorem test_witness_admission :
    (admitting (inState .uir .etap)).cfg.admitGkForms = true ∧ (admitting (inState .cdr .etap)).cfg.admitGkForms = true ∧
      (admitting (inState .udr .etap)).cfg.admitGkForms = true ∧ (inState .udr .etap).cfg.admitGkForms = false := by
  decide

theorem test_witness_MtapCommandRunsTheShiftedCommand :
    (holding 0xFC#8 (ready .udr .mtap)).tapState = .udr ∧
      decodeMchp defaultCodes (ofBits 8 (holding 0xFC#8 (ready .udr .mtap)).drShift) = .ok .mchpErase ∧
      decodeMchp defaultCodes (ofBits 8 (holding 0x55#8 (ready .udr .mtap)).drShift) = .error (.unlistedCommand 0x55) := by
  decide

theorem test_witness_EtapReadOnlyRegistersCapture :
    let s := admitting (waiting .cdr (access .load 0xFF200004))
    s.cfg.admitGkForms = true ∧ s.tapState = .cdr ∧ s.cpu.pending ≠ none := by decide

theorem test_witness_EtapDataMovesTheDataRegister :
    (holding 0xFFFFFFFF#32 (inState .udr .etap)).tapState = .udr ∧
      (holding 0xFFFFFFFF#32 (inState .udr .etap)).drShift = bitsOf 0xFFFFFFFF#32 := by decide

theorem test_witness_ControlValueShowsTheViews :
    defaultEcrLayout.legal 32 = true ∧
      (waiting .cdr ⟨.store, 0, .byte, 0⟩).cpu.pending = some ⟨.store, 0, .byte, 0⟩ ∧
      (waiting .cdr ⟨.load, 0, .half, 0⟩).cpu.pending = some ⟨.load, 0, .half, 0⟩ ∧
      (waiting .cdr ⟨.fetch, 0, .word, 0⟩).cpu.pending = some ⟨.fetch, 0, .word, 0⟩ := by decide

/-- A write with PerRst, one with PrRst alone, and one with neither. -/
theorem test_witness_ControlWriteFollowsItsFields :
    let l := defaultEcrLayout
    ((0x0010C000#32).getLsbD l.perRst = true) ∧
      ((0x0001C000#32).getLsbD l.perRst = false ∧ (0x0001C000#32).getLsbD l.prRst = true) ∧
      ((0x0000C000#32).getLsbD l.perRst = false ∧ (0x0000C000#32).getLsbD l.prRst = false) ∧
      (waiting .udr (access .fetch 0xFF200200)).cfg.ecrAccess = defaultEcrAccess ∧
      (holding 0x0000C000#32 (waiting .udr (access .fetch 0xFF200200))).drShift = bitsOf 0x0000C000#32 := by decide

theorem test_witness_PollKeepsAndReleaseCompletes :
    let s := waiting .udr (access .fetch 0xFF200200)
    let u := waiting .udr (access .store 0xFF200000)
    s.tapState = .udr ∧ s.cfg.ecrLayout.legal s.cfg.ecrLen = true ∧ s.cfg.ecrAccess = defaultEcrAccess ∧
      s.cfg.ecrAccess.prAcc = .w0 ∧
      (holding ((pollWord s.cfg.ecrLayout).setWidth 32) s).drShift = scanBits s.cfg.ecrLen (pollWord s.cfg.ecrLayout) ∧
      (holding ((releaseWord s.cfg.ecrLayout).setWidth 32) s).drShift = scanBits s.cfg.ecrLen (releaseWord s.cfg.ecrLayout) ∧
      s.cpu.pending = some (access .fetch 0xFF200200) ∧ u.cpu.pending = some (access .store 0xFF200000) := by decide

/-- A load at the first and a store at the last address of the FastData area; an update without a transfer. -/
theorem test_witness_FastdataServesLoadsAndStores :
    let s := { holding (0x12345678#32 ++ 0#1) (waiting .udr (access .load 0xFF200000)) with fdCapt := true }
    let u := { holding (0x12345678#32 ++ 0#1) (waiting .udr (access .store 0xFF20000F)) with fdCapt := true }
    (s.tapState = .udr ∧ s.drShift = false :: bitsOf 0x12345678#32 ∧ s.fdCapt = true ∧
      s.cpu.pending = some (access .load 0xFF200000) ∧ s.fdPending = true) ∧
      (u.cpu.pending = some (access .store 0xFF20000F) ∧ u.fdPending = true) ∧
      (waiting .udr (access .load 0xFF200010)).fdPending = false ∧
      (waiting .udr (access .load 0xFF200010)).fdCapt = false := by decide

theorem test_witness_EtapAllIsControlAndData :
    let s := admitting (holding (0#32 ++ 0x24840004#32 ++ 0x0000C000#32) (waiting .udr (access .fetch 0xFF200200)))
    s.cfg.admitGkForms = true ∧ s.tapState = .udr ∧
      allPart s.cfg .control s.cfg.allOrder s.drShift = bitsOf 0x0000C000#32 ∧
      allPart s.cfg .data s.cfg.allOrder s.drShift = bitsOf 0x24840004#32 ∧
      (0x0000C000#32).getLsbD s.cfg.ecrLayout.perRst = false ∧ (0x0000C000#32).getLsbD s.cfg.ecrLayout.prRst = false ∧
      (0x0010C000#32).getLsbD s.cfg.ecrLayout.perRst = true := by decide

theorem test_witness_StatusByteShowsTheFlags :
    defaultStatusLayout.legal = true ∧ (ready .cdr .mtap).mtap.cpsKnown = true := by decide

/-- For AssertResetHoldsTheCpu, DeassertResetLeavesReset and FlashCommandsSwitchFaen. -/
theorem test_witness_Configured : Configured (ready .udr .mtap) := ⟨rfl, rfl⟩

theorem test_witness_DeassertResetLeavesReset :
    let s := ran .mchpAssertRst (ready .udr .mtap)
    let u := { s with ejtagBoot := true }
    let v := { s with ecr := { s.ecr with ejtagBrk := true } }
    Configured s ∧ (ready .udr .mtap).mtap.devRst = false ∧ s.mtap.devRst = true ∧ s.ejtagBoot = false ∧
      s.ecr.ejtagBrk = false ∧ u.ejtagBoot = true ∧ v.ecr.ejtagBrk = true :=
  ⟨⟨rfl, rfl⟩, rfl, rfl, rfl, rfl, rfl, rfl⟩

theorem test_witness_EraseStartsWhateverCps :
    (locked .udr .mtap).flash.eraseRunning = false ∧
      (ran .mchpErase (locked .udr .mtap)).flash.eraseRunning = true := by decide

theorem test_witness_FlashCommandsSwitchFaen :
    let s := ready .udr .mtap
    s.cfg.family ≠ .mz ∧ ({ s.cfg with family := .mz } : Config).family = .mz := by decide

theorem test_witness_ProtectionStopsFourCommands :
    (locked .udr .mtap).mtap.cpsKnown = true ∧ (locked .udr .mtap).mtap.cps = false ∧
      (inState .udr .mtap).mtap.cpsKnown = false := by decide

/-- Before the configuration step, a command of each kind on the unprotected copy: one completes, one faults. -/
theorem test_witness_AsUnprotected :
    let s := inState .udr .mtap
    exec .mchpAssertRst (unprotected s) = .next (ran .mchpAssertRst (unprotected s)) ∧
      exec .mchpFlashEnable (unprotected { s with cfg := { s.cfg with family := .mz } }) = .fault .mzFlashEnable := ⟨rfl, rfl⟩

theorem test_witness_StatusCommandChangesNothing :
    (holding 0x00#8 (ready .udr .mtap)).tapState = .udr ∧
      ofBits 8 (holding 0x00#8 (ready .udr .mtap)).drShift = defaultCodes.mchpStatus := by decide

theorem test_witness_TapInstructionsChangeOnlyTheirRegisters :
    encode defaultCodes .etapData = .ir 0x09 ∧
      exec .etapData (inState .uir .etap) = .next (ran .etapData (inState .uir .etap)) ∧
      exec .etapData (inState .cdr .etap) = .next (ran .etapData (inState .cdr .etap)) ∧
      exec .etapData (inState .udr .etap) = .next (ran .etapData (inState .udr .etap)) :=
  ⟨rfl, rfl, rfl, rfl⟩

theorem test_witness_CommandsLeaveTheTapAlone :
    encode defaultCodes .mchpErase = .mchp 0xFC ∧
      exec .mchpErase (ready .udr .mtap) = .next (ran .mchpErase (ready .udr .mtap)) :=
  ⟨rfl, rfl⟩

/-- A cycle in a TAP state, for the statements about one cycle. -/
theorem test_witness_AboutTo_cycle (t : TapState) (u : Tap) :
    AboutTo (.cycle (quiet true)) [] (todo [.cycle (quiet true)] (inState t u)) := ⟨rfl, rfl, rfl, rfl⟩

/-- An instruction that completes, one that faults, one refused at Update-IR and one refused at Capture-DR. -/
theorem test_witness_StepRunsTheDecodedInstruction :
    let c : HostTask := .cycle (quiet true)
    let s := todo [c] { inState .uir .etap with irShift := .ofCode 0x0C }
    let f := todo [c] (holding 0x0010C000#32 { waiting .udr (access .fetch 0xFF200200) with ir := 0x0A })
    let r := todo [c] { inState .uir .etap with irShift := .ofCode 0x1F }
    let q := todo [c] { inState .cdr .etap with ir := 0x1F }
    (AboutTo c [] s ∧ fetched s = some (.ok .etapEjtagboot) ∧
      exec .etapEjtagboot (popped [] s) = .next (ran .etapEjtagboot (popped [] s))) ∧
    (AboutTo c [] f ∧ fetched f = some (.ok .etapControl) ∧
      exec .etapControl (popped [] f) = .fault (.unmodelledEcrWrite .perRst)) ∧
    (AboutTo c [] r ∧ fetched r = some (.ok .bypass) ∧
      exec .bypass (popped [] r) = .refused (.unmodelledIr .etap 0x1F)) ∧
    (AboutTo c [] q ∧ fetched q = some (.ok .bypass) ∧
      exec .bypass (popped [] q) = .refused (.unmodelledIr .etap 0x1F)) :=
  ⟨⟨⟨rfl, rfl, rfl, rfl⟩, rfl, rfl⟩, ⟨⟨rfl, rfl, rfl, rfl⟩, rfl, rfl⟩, ⟨⟨rfl, rfl, rfl, rfl⟩, rfl, rfl⟩,
    ⟨rfl, rfl, rfl, rfl⟩, rfl, rfl⟩

theorem test_witness_UnlistedCodeIsRefused :
    fetched { inState .uir .mtap with irShift := .ofCode 0x0A } = some (.error (.unlistedIr .mtap 0x0A)) ∧
      fetched { inState .cdr .mtap with ir := 0x0A } = some (.error (.unlistedIr .mtap 0x0A)) := by decide

theorem test_witness_MarkedStateStops :
    ((inState .rti .mtap).mark .mzFlashEnable).faults = [.mzFlashEnable] ∧
      ((inState .rti .mtap).refuse .misaligned).faults = [] ∧
      ((inState .rti .mtap).refuse .misaligned).refused = some .misaligned := by decide

theorem test_witness_ShiftCyclesSampleThenShift :
    ({ inState .sdr .mtap with drShift := [true] } : State).drShift = [true] ∧ (inState .sdr .mtap).tapState = .sdr ∧
      (inState .sir .mtap).tapState = .sir := by decide

/-- For CaptureIrLoadsZeroOne, IdleAndPauseStatesDoNothing and TestLogicResetActions. -/
theorem test_witness_quiet_cycles :
    (quiet true).rd = false ∧ (inState .cir .mtap).tapState = .cir ∧ (inState .tlr .mtap).tapState = .tlr ∧
      (inState .e2i .mtap).tapState ∈ [TapState.rti, .sds, .sis, .e1d, .pdr, .e2d, .e1i, .pir, .e2i] := by decide

theorem test_witness_IrScanIsTheUpdateOfItsCode :
    let s := inState .rti .etap
    let u := { s with tapState := .uir, irShift := .ofCode 0x0C, draws := s.draws + 1 }
    s.unmarked = true ∧ s.tapState = .rti ∧ decodeIr s.cfg.codes s.tapSel 0x0C = .ok .etapEjtagboot ∧
      exec .etapEjtagboot u = .next (ran .etapEjtagboot u) := ⟨rfl, rfl, rfl, rfl⟩

/-- A scan of one bit, the shortest. -/
theorem test_witness_DrScanIsCaptureShiftUpdate :
    let s := { inState .rti .etap with ir := 0x09 }
    let p := ran .etapData { s with tapState := .cdr }
    let u := { p with
      tapState := .udr
      drShift := (p.drShift ++ [true]).drop [true].length
      host := { p.host with rx := p.host.rx ++ (p.drShift ++ [true]).take [true].length } }
    s.unmarked = true ∧ s.tapState = .rti ∧ decodeIr s.cfg.codes s.tapSel s.ir = .ok .etapData ∧ [true] ≠ [] ∧
      exec .etapData { s with tapState := .cdr } = .next p ∧ p.drShift ≠ [] ∧
      exec .etapData u = .next (ran .etapData u) :=
  ⟨rfl, rfl, rfl, by decide, rfl, by decide, rfl⟩

theorem test_witness_InjectedWordIsDelivered :
    let s := waiting .rti (access .fetch 0xFF200200)
    s.unmarked = true ∧ s.tapState = .rti ∧ s.tapSel = .etap ∧ s.cfg.codes.legal = true ∧
      s.cfg.ecrLayout.legal s.cfg.ecrLen = true ∧ s.cfg.ecrAccess = defaultEcrAccess ∧
      s.cpu.pending = some (access .fetch 0xFF200200) ∧ (access .fetch 0xFF200200).kind ≠ .store := by decide

theorem test_witness_StepsPerformTheCyclesInOrder :
    let cs := [quiet true, quiet false]
    let s := todo (cs.map .cycle) (inState .rti .mtap)
    s.unmarked = true ∧ s.agenda = [] ∧ s.host.todo = cs.map .cycle ++ [] ∧
      (cycles cs (popped [] s)).unmarked = true := ⟨rfl, rfl, rfl, rfl⟩

theorem test_witness_DecodeOfEncodeIsTheInstruction :
    defaultCodes.legal = true ∧ Instr.decodedBy .etapFastdata .etap = true := by decide

theorem test_witness_EncodeOfDecodeIsTheWord : decode defaultCodes .mtap (.mchp 0xFC) = .ok .mchpErase := by decide

theorem test_witness_StreamDecoderRecoversTheScans :
    ∀ x ∈ [Scan.ir 0x04, Scan.dr [true] true], x.recorded.bits ≠ [] := by decide

/-- The vector fetch; and the last address of debug memory, with ProbEn = 1 and with ProbEn = 0. -/
theorem test_witness_CpuPostsOneAccess :
    let v := access .fetch 0xFF200200
    let a := access .store 0xFF2FFFFF
    let s := turn (.cpu (.post v)) { waiting .rti v with cpu := ⟨.debug, none, [], 0xFF200200, true, false⟩ }
    let u := turn (.cpu (.post a)) { waiting .rti v with cpu := ⟨.debug, none, [], 0xFF200200, false, false⟩ }
    let w := turn (.cpu (.post a)) { ready .rti .etap with cpu := ⟨.debug, none, [], 0xFF200200, false, false⟩ }
    (TurnOf (.cpu (.post v)) [] s ∧ s.cpu.mode = .debug ∧ s.cpu.pending = none ∧ s.cfg.dmsegLo ≤ v.addr ∧
      v.addr ≤ s.cfg.dmsegHi ∧ s.cpu.atVector = true ∧ v.kind = .fetch ∧ v.size = .word ∧
      v.addr = s.cfg.dmsegVector ∧ s.ecr.probEn = true) ∧
    (TurnOf (.cpu (.post a)) [] u ∧ u.cpu.atVector = false ∧ a.addr = u.cfg.dmsegHi ∧ u.ecr.probEn = true) ∧
    (TurnOf (.cpu (.post a)) [] w ∧ w.cpu.mode = .debug ∧ w.cpu.pending = none ∧ w.ecr.probEn = false) :=
  ⟨⟨⟨rfl, rfl, rfl⟩, rfl, rfl, by decide, by decide, rfl, rfl, rfl, rfl, rfl⟩, ⟨⟨rfl, rfl, rfl⟩, rfl, rfl, rfl⟩,
    ⟨rfl, rfl, rfl⟩, rfl, rfl, rfl⟩

theorem test_witness_CpuTurnsThatAreNotEnabled :
    let a := access .load 0xFF200000
    (TurnOf (.cpu (.post a)) [] (turn (.cpu (.post a)) (ran .mchpAssertRst (ready .rti .mtap))) ∧
      (ran .mchpAssertRst (ready .rti .mtap)).cpu.mode = .reset) ∧
    ((waiting .rti a).cpu.pending ≠ none ∧ (waiting .rti a).cpu.mode = .debug) ∧
    ((ready .rti .mtap).cpu.mode = .run ∧ (ready .rti .mtap).ecr.ejtagBrk = false) :=
  ⟨⟨⟨rfl, rfl, rfl⟩, rfl⟩, ⟨by decide, rfl⟩, rfl, rfl⟩

/-- The addresses next to debug memory, and a first post that is not the vector fetch. -/
theorem test_witness_CpuPostsThatAreNotEnabled :
    let v : Cpu := ⟨.debug, none, [], 0xFF200200, true, false⟩
    let a := access .load 0xFF1FFFFF
    let b := access .load 0xFF300000
    let c := access .load 0xFF200200
    let s (a : Access) : State := turn (.cpu (.post a)) { ready .rti .etap with cpu := v }
    (TurnOf (.cpu (.post a)) [] (s a) ∧ a.addr < (s a).cfg.dmsegLo) ∧
      (TurnOf (.cpu (.post b)) [] (s b) ∧ (s b).cfg.dmsegHi < b.addr) ∧
      (TurnOf (.cpu (.post c)) [] (s c) ∧ (s c).cpu.atVector = true ∧
        ¬(c.kind = .fetch ∧ c.size = .word ∧ c.addr = (s c).cfg.dmsegVector)) :=
  ⟨⟨⟨rfl, rfl, rfl⟩, by decide⟩, ⟨⟨rfl, rfl, rfl⟩, by decide⟩, ⟨rfl, rfl, rfl⟩, rfl, by decide⟩

theorem test_witness_CpuTakesAndLeavesTheDebugException :
    let s := turn (.cpu .takeDebug) { ready .rti .etap with ecr := ⟨false, false, false, true, true, true⟩ }
    let u := turn (.cpu .leaveDebug) { ready .rti .etap with cpu := ⟨.debug, none, [], 0, false, false⟩ }
    (TurnOf (.cpu .takeDebug) [] s ∧ s.cpu.mode = .run ∧ s.ecr.ejtagBrk = true) ∧
    (TurnOf (.cpu .leaveDebug) [] u ∧ u.cpu.mode = .debug ∧ u.cpu.pending = none) :=
  ⟨⟨⟨rfl, rfl, rfl⟩, rfl, rfl⟩, ⟨rfl, rfl, rfl⟩, rfl, rfl⟩

theorem test_witness_FlashAgentSteps :
    let s := turn (.flash .finishErase) (ran .mchpErase (ready .rti .mtap))
    let u := turn (.flash .configure) (inState .rti .mtap)
    (TurnOf (.flash .finishErase) [] s ∧ s.flash.eraseRunning = true ∧ u.flash.eraseRunning = false) ∧
    (TurnOf (.flash .configure) [] u ∧ u.flash.configPending = true ∧ (after u).flash.configPending = false) :=
  ⟨⟨⟨rfl, rfl, rfl⟩, rfl, rfl⟩, ⟨rfl, rfl, rfl⟩, rfl, rfl⟩

/-- A host operation first, for the statements about one. -/
theorem test_witness_AboutTo_op (o : HostOp) :
    AboutTo (.op o) [] (todo [.op o] (inState .rti .mtap)) := ⟨rfl, rfl, rfl, rfl⟩

set_option maxRecDepth 20000 in
/-- A good frame, a frame with another CRC, and a frame with no end. -/
theorem test_witness_CrcUnitOperations :
    let s := inState .rti .etap
    (∀ o, AboutTo (.op o) [] (todo [.op o] s)) ∧ s.cfg.frameSeed = 0 ∧ frameParts [0x01] = none ∧
      decodeFrame 0 [0x01, 0x05, 0x12, 0x34, 0x36, 0xF8, 0x04] = some (0x05, [0x12, 0x34]) ∧
      frameParts [0x01, 0x05, 0x12, 0x34, 0x36, 0xF9, 0x04] = some (0x05, [0x12, 0x34], 0xF936) ∧
      decodeFrame 0 [0x01, 0x05, 0x12, 0x34, 0x36, 0xF9, 0x04] = none :=
  ⟨fun _ => ⟨rfl, rfl, rfl, rfl⟩, rfl, by decide⟩

theorem test_witness_CrcDetectsOneChangedByte : (0x00 : Byte) ≠ 0x01 := by decide

/-- Preconditions: no selection, no executive; a scan of 65 bits; MK; the executive at the first misaligned addresses. -/
theorem test_witness_HostOperationsRefuseBeforeAnyScan :
    let s := inState .rti .mtap
    let k := { s with cfg := { s.cfg with family := .mk } }
    let e := { s with host := { s.host with useExecutive := true } }
    s.host.hostSel ≠ some .mtap ∧ s.host.hostSel ≠ some .etap ∧ s.host.useExecutive = false ∧ 64 < 65 ∧
      k.cfg.family = .mk ∧ e.host.useExecutive = true ∧ (0x9D000001#32).toNat % 4 ≠ 0 ∧
      (0x9D000004#32).toNat % 8 ≠ 0 ∧ (0x9D000008#32).toNat % 16 ≠ 0 := by decide

/-- A loop about to start under ETAP_CONTROL with no access pending; the last poll allowed, the one before it, and the bit seen set and clear. -/
theorem test_witness_PrAccLoopIsBounded :
    let s := inState .rti .etap
    let one := { s with host := { s.host with result := bitsOf 0x00040000#32 } }
    let first := todo [.poll 0] { s with ir := 0x0A }
    (AboutTo (.poll 0) [] first ∧ first.tapState = .rti ∧ first.cfg.ecrLayout.legal first.cfg.ecrLen = true ∧ first.cpu.pending = none ∧
      decodeIr first.cfg.codes first.tapSel first.ir = .ok .etapControl ∧
      Host.Core.run Sys2Proof.core 1 first = .next (after first)) ∧
    AboutTo (.poll 150) [] (todo [.poll 150] s) ∧ 150 = s.cfg.pollMax ∧ 149 < s.cfg.pollMax ∧
      AboutTo (.pollCheck 150) [] (todo [.pollCheck 150] one) ∧
      one.host.result.getD s.cfg.ecrLayout.prAcc false = true ∧
      s.host.result.getD s.cfg.ecrLayout.prAcc false = false :=
  ⟨⟨⟨rfl, rfl, rfl, rfl⟩, rfl, by decide, rfl, rfl, rfl⟩, ⟨rfl, rfl, rfl, rfl⟩, rfl, by decide, ⟨rfl, rfl, rfl, rfl⟩, rfl,
    rfl⟩

theorem test_witness_CrcMismatchFollowsThePolicy :
    let s := todo [.compareCrc] { inState .rti .etap with crc := 0x5678 }
    let r (p : VerifyPolicy) (c : Word) : State :=
      { s with cfg := { s.cfg with verifyPolicy := p }, host := { s.host with resp := [0x00080000, c] } }
    AboutTo .compareCrc [] (r .strict 0x1234) ∧ (r .strict 0x1234).host.resp = [0x00080000, 0x1234] ∧
      (0x00005678#32).extractLsb' 0 16 = s.crc ∧ (0x00001234#32).extractLsb' 0 16 ≠ s.crc ∧
      (r .strict 0x1234).cfg.verifyPolicy = .strict ∧ (r .warn 0x1234).cfg.verifyPolicy = .warn :=
  ⟨⟨rfl, rfl, rfl, rfl⟩, rfl, by decide, by decide, rfl, rfl⟩

/-- The last pair of a table of four. -/
theorem test_witness_LoaderTableGivesHalfAsManyQuadruples :
    let l := [0x1234#16, 0x5678, 0x9ABC, 0xDEF0]
    l.length % 2 = 0 ∧ 2 * 1 + 1 < l.length := by decide

/-- Rows of two words: an erased block of two rows; a block whose first row is to be sent, and one whose first row is not, each with more
after it. -/
theorem test_witness_ErasedBlockIssuesNothing :
    let e : Word := 0xFFFFFFFF
    let s (ws : List Word) : State :=
      todo [.op (.programBlock 0x9D000000 ws)] { State.reset with
        cfg := { State.reset.cfg with rowWords := 2 }, host := { State.reset.host with useExecutive := true } }
    (AboutTo (.op (.programBlock 0x9D000000 (List.replicate (2 * 2) e))) [] (s [e, e, e, e])) ∧
      (AboutTo (.op (.programBlock 0x9D000000 ([e, 1] ++ [2, 3]))) [] (s [e, 1, 2, 3]) ∧ ∃ w ∈ [e, 1], w ≠ 0xFFFFFFFF) ∧
      (AboutTo (.op (.programBlock 0x9D000000 ([e, e] ++ [2]))) [] (s [e, e, 2]) ∧ ∀ w ∈ [e, e], w = 0xFFFFFFFF) ∧
      0 < (s []).cfg.rowWords ∧ [e, 1].length = (s []).cfg.rowWords ∧ (s []).host.useExecutive = true :=
  ⟨⟨rfl, rfl, rfl, rfl⟩, ⟨⟨rfl, rfl, rfl, rfl⟩, 1, by simp, by decide⟩, ⟨⟨rfl, rfl, rfl, rfl⟩, by simp⟩, by decide, rfl, rfl⟩

/-- A power-on in the middle of a debug session. -/
theorem test_witness_ResetLeavesThePowerOnValues :
    TurnOf .powerOn [] (turn .powerOn (waiting .sdr (access .fetch 0xFF200200))) := ⟨rfl, rfl, rfl⟩

/-- A pending fetch in the middle of a data scan, with a step. For StepKeepsTheInvariant, StepKeepsTheParameters,
WordsAreDeliveredByCompletionOnly and PendingAccessWaitsForTheProbe. -/
theorem test_witness_Inv :
    let s := { waiting .sdr (access .fetch 0xFF200200) with ir := 0x09, drShift := List.replicate 32 false }
    s.Inv ∧ step s = .next (after s) ∧ s.cpu.pending = some (access .fetch 0xFF200200) ∧
      ∀ rest, s.agenda ≠ .powerOn :: rest := by
  refine ⟨⟨by decide, ?_, by decide, by decide, by decide, by decide, fun _ => ⟨.etapData, by decide, by decide⟩, by decide⟩,
    rfl, rfl, fun _ => nofun⟩
  intro a h
  cases h
  decide

theorem test_witness_TapSelChangesOnlyBySwitchOrReset :
    let s := todo [.cycle (quiet false)] { inState .uir .mtap with irShift := .ofCode 0x05 }
    step s = .next (after s) ∧ (after s).tapSel ≠ s.tapSel := ⟨rfl, by decide⟩

theorem test_witness_FlashAgentLeavesTheTapAndEjtag :
    let s := turn (.flash .configure) (inState .rti .mtap)
    s.agenda = .flash .configure :: [] ∧ step s = .next (after s) := ⟨rfl, rfl⟩

end Sys2Proof.Tests
end

section
/-! SUPPORT. What one step can do to the block: one list of updates (`BlockUpdate`) that every turn of every agent stays inside, and with it
the statements that every step keeps the parameters and the invariant (10_state.md R42, R44). -/

namespace Sys2Proof.Machine

open Host (Outcome)

/-! ## The two parts of the state that the invariant reads -/

/-- What the invariant reads outside the scan path. -/
structure Block where
  cfg : Config
  cpu : Cpu
  ejAddr : Word
  mtap : Mtap
  flash : Flash
  ecr : Ecr

def State.block (s : State) : Block := ⟨s.cfg, s.cpu, s.ejAddr, s.mtap, s.flash, s.ecr⟩

/-- What the clause on the shift register reads. -/
structure ScanPath where
  cfg : Config
  tapState : TapState
  tapSel : Tap
  ir : IrCode
  drShift : List Bool

def State.scanPath (s : State) : ScanPath := ⟨s.cfg, s.tapState, s.tapSel, s.ir, s.drShift⟩

/-- The clauses of the invariant that speak of the block. -/
structure Block.Inv (b : Block) : Prop where
  pendingInDebug : b.cpu.pending ≠ none → b.cpu.mode = .debug
  pendingAddr : ∀ a, b.cpu.pending = some a → b.ejAddr = a.addr ∧ inDmseg b.cfg a.addr = true
  busyIffErasing : b.mtap.fcBusy = b.flash.eraseRunning
  resetHolds : b.mtap.devRst = true → b.cpu.mode = .reset
  vectorInDebug : b.cpu.atVector = true → b.cpu.mode = .debug ∧ b.cpu.pending = none
  noResetRequest : b.ecr.perRst = false ∧ b.ecr.prRst = false
  orderOfThree : allOrderLegal b.cfg.allOrder = true

theorem inv_iff {s : State} : s.Inv ↔ s.block.Inv ∧ s.ShiftWidth :=
  ⟨fun ⟨h1, h2, h3, h4, h5, h6, h7, h8⟩ => ⟨⟨h1, h2, h3, h4, h5, h6, h8⟩, h7⟩,
    fun ⟨⟨h1, h2, h3, h4, h5, h6, h8⟩, h7⟩ => ⟨h1, h2, h3, h4, h5, h6, h7, h8⟩⟩

theorem cfg_of_block {s t : State} (h : t.block = s.block) : t.cfg = s.cfg := congrArg Block.cfg h

theorem shiftWidth_of_scanPath {s t : State} (h : t.scanPath = s.scanPath) (hs : s.ShiftWidth) : t.ShiftWidth := by
  simp only [State.scanPath, ScanPath.mk.injEq] at h
  obtain ⟨hcfg, hstate, hsel, hir, hshift⟩ := h
  simpa [State.ShiftWidth, hcfg, hstate, hsel, hir, hshift] using hs

theorem HostOnly.block {s t : State} (h : HostOnly s t) : t.block = s.block := by
  obtain ⟨_, _, _, _, rfl⟩ := h
  rfl

theorem HostOnly.scanPath {s t : State} (h : HostOnly s t) : t.scanPath = s.scanPath := by
  obtain ⟨_, _, _, _, rfl⟩ := h
  rfl

theorem voidReply_block (s : State) : (voidReply s).block = s.block := by
  obtain h | ⟨-, h⟩ := voidReply_cases s <;> rw [h]
  rfl

theorem lookedAtCps_block (s : State) : s.lookedAtCps.block = s.block := by
  obtain h | h := lookedAtCps_cases s <;> rw [h]
  rfl

/-! ## The updates of the block -/

/-- Every update of the block that a rule of 41, 42, 60 or 70 makes, under the condition that the rule gives it. -/
inductive BlockUpdate : State → State → Prop
  | none (s : State) : BlockUpdate s s
  | completion (s : State) : BlockUpdate s (completeAccess s)                                    -- 42 R231
  | control {n : Nat} (v : BitVec n) (s : State) (h : ecrFault s.cfg.ecrLayout v = .none) :
      BlockUpdate s (ecrApply v s)                                                               -- 42 R230
  | testLogicReset (s : State) : BlockUpdate s (tlrActions s)                                    -- 70 R401
  | assertReset (s : State) : BlockUpdate s (assertReset s)                                      -- 41 R191
  | releaseReset (s : State) : BlockUpdate s (releaseReset s)                                    -- 41 R192
  | startErase (s : State) : BlockUpdate s (startErase s)                                        -- 41 R193
  | eraseGoesOn (s : State) (h : s.flash.eraseRunning = true) :
      BlockUpdate s (s.setMtap { s.mtap with fcBusy := true })                                   -- 41 R193
  | flashAccess (b : Bool) (s : State) : BlockUpdate s (s.setMtap { s.mtap with faen := b })     -- 41 R194, R195
  | post (a : Access) (s : State) (h : mayPost a s = true) : BlockUpdate s (postAccess a s)      -- 42 R251
  | leaveDebug (s : State) (h : s.cpu.mode = .debug) : BlockUpdate s (leaveDebug s)              -- 60 R382
  | debugEntry (s : State) (h : s.cpu.mode = .run) : BlockUpdate s (debugExceptionEntry s)       -- 60 R380
  | configure (s : State) : BlockUpdate s (configure s)                                          -- 41 R205
  | finishErase (s : State) : BlockUpdate s (finishErase s)                                      -- 41 R204
  | powerOn (s : State) : BlockUpdate s (powerOn s)                                              -- 70 R402

/-- From `s` to `t` the block undergoes one of these updates; what else differs is outside the block. -/
def BlockStep (s t : State) : Prop := ∃ u v, u.block = s.block ∧ BlockUpdate u v ∧ t.block = v.block

namespace BlockStep

variable {s t u : State}

theorem of_update (h : BlockUpdate s t) : BlockStep s t := ⟨s, t, rfl, h, rfl⟩

theorem of_block (h : t.block = s.block) : BlockStep s t := ⟨s, s, rfl, .none s, h⟩

theorem after_kept (h : BlockStep u t) (hu : u.block = s.block) : BlockStep s t := by
  obtain ⟨x, y, hx, hxy, hy⟩ := h
  exact ⟨x, y, hx.trans hu, hxy, hy⟩

theorem then_kept (h : BlockStep s u) (ht : t.block = u.block) : BlockStep s t := by
  obtain ⟨x, y, hx, hxy, hy⟩ := h
  exact ⟨x, y, hx, hxy, ht.trans hy⟩

end BlockStep

/-! ## What each update keeps -/

theorem BlockUpdate.cfg {s t : State} (h : BlockUpdate s t) : t.cfg = s.cfg := by
  cases h with
  | completion => obtain ⟨-, h⟩ | ⟨a, -, h⟩ := completeAccess_cases s <;> simp [h]
  | control v =>
    obtain ⟨u, hu, h⟩ := ecrApply_cases v s
    obtain ⟨-, hc⟩ | ⟨a, -, hc⟩ := completeAccess_cases s <;> obtain rfl | rfl := hu <;> simp [h, hc]
  | releaseReset => obtain ⟨_, _, _, h, -⟩ := releaseReset_cases s; simp [h]
  | _ => rfl

theorem BlockStep.cfg {s t : State} (h : BlockStep s t) : t.cfg = s.cfg := by
  obtain ⟨u, v, hu, huv, hv⟩ := h
  rw [cfg_of_block hv, huv.cfg, cfg_of_block hu]

/-- Outside debug mode no access is pending. -/
theorem Block.Inv.pending_eq_none {b : Block} (h : b.Inv) (hm : b.cpu.mode ≠ .debug) : b.cpu.pending = none :=
  not_not.mp fun hp => hm (h.pendingInDebug hp)

/-- The device reset is not asserted where the CPU runs or is in debug mode. -/
theorem Block.Inv.devRst_eq_false {b : Block} (h : b.Inv) (hm : b.cpu.mode ≠ .reset) : b.mtap.devRst = false :=
  Bool.eq_false_iff.mpr fun hd => hm (h.resetHolds hd)

section

variable {s : State} (h : s.block.Inv)
include h

theorem completeAccess_inv : (completeAccess s).block.Inv := by
  obtain ⟨-, e⟩ | ⟨a, hp, e⟩ := completeAccess_cases s
  · rwa [e]
  · rw [e]
    have hv : s.cpu.atVector = true → s.cpu.mode = .debug := fun hv => (h.vectorInDebug hv).1
    exact { h with
      pendingInDebug := fun hn => absurd rfl hn
      pendingAddr := nofun
      vectorInDebug := fun hv' => ⟨hv hv', rfl⟩ }

/-- Control fields that request no reset keep the invariant. -/
theorem setEcr_inv {e : Ecr} (he : e.perRst = false ∧ e.prRst = false) : (s.setEcr e).block.Inv :=
  { h with noResetRequest := he }

theorem ecrApply_inv {n : Nat} {v : BitVec n} (hf : ecrFault s.cfg.ecrLayout v = none) :
    (ecrApply v s).block.Inv := by
  obtain ⟨hper, hpr⟩ := ecrFault_none hf
  obtain ⟨eper, epr⟩ : s.ecr.perRst = false ∧ s.ecr.prRst = false := h.noResetRequest
  obtain ⟨u, hu, e⟩ := ecrApply_cases v s
  have hinv : u.block.Inv := by
    obtain rfl | rfl := hu
    · exact h
    · exact completeAccess_inv h
  rw [e]
  exact setEcr_inv hinv (by simp [ecrFields, hper, hpr, eper, epr])

/-- A debug entry from a CPU that is not in debug mode, with the reset released. -/
theorem debugExceptionEntry_inv (hp : s.cpu.pending = none) (hr : s.mtap.devRst = false) :
    (debugExceptionEntry s).block.Inv :=
  { h with
    pendingInDebug := fun _ => rfl
    resetHolds := fun hd => absurd (hr.symm.trans hd) (by decide)
    vectorInDebug := fun _ => ⟨rfl, hp⟩ }

theorem leaveDebug_inv (hr : s.mtap.devRst = false) : (leaveDebug s).block.Inv :=
  { h with
    pendingInDebug := fun hn => absurd rfl hn
    pendingAddr := nofun
    resetHolds := fun hd => absurd (hr.symm.trans hd) (by decide)
    vectorInDebug := nofun }

/-- The reset exit, from a CPU with no access pending and the reset released. -/
theorem cpuResetExit_inv (hp : s.cpu.pending = none) (hr : s.mtap.devRst = false) : (cpuResetExit s).block.Inv := by
  have hrun : (s.setCpu { s.cpu with mode := .run, pc := s.cfg.resetVector, atVector := false }).block.Inv :=
    { h with
      pendingInDebug := fun hn => absurd hp hn
      resetHolds := fun hd => absurd (hr.symm.trans hd) (by decide)
      vectorInDebug := nofun }
  unfold cpuResetExit
  dsimp only
  split_ifs
  · exact debugExceptionEntry_inv (setEcr_inv h h.noResetRequest) hp hr
  · exact debugExceptionEntry_inv hrun hp hr
  · exact hrun

theorem releaseReset_inv : (releaseReset s).block.Inv := by
  unfold releaseReset
  split_ifs with hd
  · have hm : s.cpu.mode = .reset := h.resetHolds hd
    have hp : s.cpu.pending = none := h.pending_eq_none (by simp [State.block, hm])
    exact cpuResetExit_inv { h with resetHolds := nofun } hp rfl
  · exact h

theorem assertReset_inv : (assertReset s).block.Inv :=
  { h with
    pendingInDebug := fun hn => absurd rfl hn
    pendingAddr := nofun
    resetHolds := fun _ => rfl
    vectorInDebug := nofun }

/-- The CPU posts in debug mode and at an address of debug memory. -/
theorem postAccess_inv {a : Access} (ha : mayPost a s = true) : (postAccess a s).block.Inv := by
  simp only [mayPost, Bool.and_eq_true, beq_iff_eq] at ha
  obtain ⟨⟨⟨hm, -⟩, hseg⟩, -⟩ := ha
  exact { h with
    pendingInDebug := fun _ => hm
    pendingAddr := fun b hb => by cases hb; exact ⟨rfl, hseg⟩
    vectorInDebug := nofun }

theorem powerOn_inv : (powerOn s).block.Inv where
  pendingInDebug := fun hn => absurd rfl hn
  pendingAddr := nofun
  busyIffErasing := rfl
  resetHolds := nofun
  vectorInDebug := nofun
  noResetRequest := ⟨rfl, rfl⟩
  orderOfThree := h.orderOfThree

end

theorem BlockUpdate.inv {s t : State} (hst : BlockUpdate s t) (h : s.block.Inv) : t.block.Inv := by
  cases hst with
  | none => exact h
  | completion => exact completeAccess_inv h
  | control v _ hf => exact ecrApply_inv h hf
  | testLogicReset => exact { h with noResetRequest := ⟨rfl, rfl⟩ }
  | assertReset => exact assertReset_inv h
  | releaseReset => exact releaseReset_inv h
  | startErase => exact { h with busyIffErasing := rfl }
  | eraseGoesOn _ he => exact { h with busyIffErasing := he.symm }
  | flashAccess b => exact { h with }
  | post a _ ha => exact postAccess_inv h ha
  | leaveDebug _ hm => exact leaveDebug_inv h (h.devRst_eq_false (by simp [State.block, hm]))
  | debugEntry _ hm =>
    exact debugExceptionEntry_inv h (h.pending_eq_none (by simp [State.block, hm]))
      (h.devRst_eq_false (by simp [State.block, hm]))
  | configure => exact { h with }
  | finishErase => exact { h with busyIffErasing := rfl }
  | powerOn => exact powerOn_inv h

theorem BlockStep.inv {s t : State} (hst : BlockStep s t) (h : s.block.Inv) : t.block.Inv := by
  obtain ⟨u, v, hu, huv, hv⟩ := hst
  rw [hv]
  exact huv.inv (hu ▸ h)

/-! ## Every meaning stays inside the list -/

/-- A TAP instruction whose actions at Update-IR and Capture-DR keep the block takes a block step if its update does. -/
theorem tapInstr_blockStep {code : IrCode} {atIr cap : State → State} {upd : State → Result} {s t : State}
    (h : tapInstr code atIr cap upd s = .next t) (hir : (atIr (s.latchIr code)).block = s.block)
    (hcap : (cap s).block = s.block) (hupd : upd s = .next t → BlockStep s t) : BlockStep s t := by
  obtain ⟨-, rfl⟩ | ⟨-, rfl⟩ | ⟨-, hu⟩ | ⟨-, -, -, rfl⟩ := tapInstr_next h
  · exact .of_block hir
  · exact .of_block hcap
  · exact hupd hu
  · exact .of_block rfl

theorem noUpdate_blockStep {s t : State} (h : noUpdate s = .next t) : BlockStep s t := by
  cases h
  exact .of_block rfl

theorem ecrWrite_blockStep {n : Nat} {v : BitVec n} {s t : State} (h : ecrWrite v s = .next t) : BlockStep s t := by
  obtain ⟨hf, rfl⟩ := ecrWrite_next h
  exact .of_update (.control v s hf)

theorem fastdataUpdate_blockStep (s : State) : BlockStep s (fastdataUpdate s) := by
  unfold fastdataUpdate
  split_ifs
  · obtain ⟨-, e⟩ | ⟨u, hu, e⟩ := fastdataTransfer_cases (fastdataParts s.drShift).2 s <;> rw [e]
    · exact .of_block rfl
    · refine (BlockStep.of_update (.completion u)).after_kept ?_
      obtain rfl | rfl := hu <;> rfl
  · exact .of_block rfl

theorem allUpdate_blockStep {s t : State} (h : allUpdate s = .next t) : BlockStep s t := by
  unfold allUpdate at h
  dsimp only at h
  split at h
  · cases h
  · next hf =>
    split_ifs at h <;> cases h
    · exact (BlockStep.of_update (.control _ (s.bump.setEjData _) hf)).after_kept rfl
    · exact ((BlockStep.of_update (.control _ s.bump hf)).after_kept rfl).then_kept rfl

/-- A command's update, made after a look at CPS and with its reply voided. -/
theorem blockStep_of_command {s t u v : State} (huv : BlockUpdate u v) (hu : u.block = s.block)
    (h : (Outcome.next (voidReply v) : Result) = .next t) : BlockStep s t := by
  cases h
  exact ⟨u, v, hu, huv, voidReply_block v⟩

theorem execMchpAssertRst_blockStep {s t : State} (h : execMchpAssertRst s = .next t) : BlockStep s t :=
  blockStep_of_command (.assertReset _) (lookedAtCps_block s) (unlessProtected_next h).2

theorem execMchpDeassertRst_blockStep {s t : State} (h : execMchpDeassertRst s = .next t) : BlockStep s t :=
  blockStep_of_command (.releaseReset _) (lookedAtCps_block s) (unlessProtected_next h).2

theorem execMchpErase_blockStep {s t : State} (h : execMchpErase s = .next t) : BlockStep s t := by
  unfold execMchpErase at h
  dsimp only at h
  split_ifs at h with hrun
  · exact blockStep_of_command (.startErase s.bump) rfl h
  · exact blockStep_of_command (.eraseGoesOn s.bump hrun) rfl h
  · exact blockStep_of_command (.startErase s) rfl h

theorem execMchpFlashEnable_blockStep {s t : State} (h : execMchpFlashEnable s = .next t) : BlockStep s t := by
  obtain ⟨-, hrun⟩ := unlessProtected_next h
  split_ifs at hrun
  exact blockStep_of_command (.flashAccess true _) (lookedAtCps_block s) hrun

theorem execMchpFlashDisable_blockStep {s t : State} (h : execMchpFlashDisable s = .next t) : BlockStep s t := by
  obtain ⟨-, hrun⟩ := unlessProtected_next h
  split_ifs at hrun
  exact blockStep_of_command (.flashAccess false _) (lookedAtCps_block s) hrun

theorem mchpExec_blockStep {s t : State} (h : mchpExec s = .next t) : BlockStep s t := by
  obtain h | h | h | h | h | h := mchpExec_next h
  · exact noUpdate_blockStep h
  · exact execMchpAssertRst_blockStep h
  · exact execMchpDeassertRst_blockStep h
  · exact execMchpErase_blockStep h
  · exact execMchpFlashEnable_blockStep h
  · exact execMchpFlashDisable_blockStep h

theorem next_blockStep {s t u : State} (hu : BlockStep s u) (h : (Outcome.next u : Result) = .next t) : BlockStep s t := by
  cases h
  exact hu

theorem exec_etapData (s : State) : exec .etapData s =
    tapInstr s.cfg.codes.etapData id captureData (fun s => .next (s.setEjData (ofBits 32 s.drShift))) s := rfl

theorem exec_etapFastdata (s : State) : exec .etapFastdata s =
    tapInstr s.cfg.codes.etapFastdata id captureFastdata (fun s => .next (fastdataUpdate s)) s := rfl

theorem exec_blockStep {i : Instr} {s t : State} (h : exec i s = .next t) : BlockStep s t := by
  cases i with
  | mtapIdcode | swMtap | swEtap | etapEjtagboot => exact tapInstr_blockStep h rfl rfl noUpdate_blockStep
  | bypass | etapIdcode | etapImpcode | etapAddress | etapNormalboot =>
    exact tapInstr_blockStep (ifAdmitted_next h).2 rfl rfl noUpdate_blockStep
  | mtapCommand => exact tapInstr_blockStep h rfl rfl mchpExec_blockStep
  | etapData => exact tapInstr_blockStep ((exec_etapData s).symm.trans h) rfl rfl (next_blockStep (.of_block rfl))
  | etapControl => exact tapInstr_blockStep h rfl rfl ecrWrite_blockStep
  | etapAll => exact tapInstr_blockStep (ifAdmitted_next h).2 rfl rfl allUpdate_blockStep
  | etapFastdata =>
    exact tapInstr_blockStep ((exec_etapFastdata s).symm.trans h) rfl rfl (next_blockStep (fastdataUpdate_blockStep s))
  | mchpStatus => exact noUpdate_blockStep h
  | mchpAssertRst => exact execMchpAssertRst_blockStep h
  | mchpDeassertRst => exact execMchpDeassertRst_blockStep h
  | mchpErase => exact execMchpErase_blockStep h
  | mchpFlashEnable => exact execMchpFlashEnable_blockStep h
  | mchpFlashDisable => exact execMchpFlashDisable_blockStep h

/-- A code that is run to a next state is a listed code, and its instruction's meaning answers that state. -/
theorem runCode_next {v : IrCode} {s t : State} (h : runCode v s = .next t) :
    ∃ i, decodeIr s.cfg.codes s.tapSel v = .ok i ∧ exec i s = .next t := by
  unfold runCode at h
  split at h
  · next i hi => exact ⟨i, hi, h⟩
  · cases h

theorem tapAction_blockStep {tdi : Bool} {s t : State} (h : tapAction tdi s = .next t) : BlockStep s t := by
  cases hq : s.tapState <;> simp only [tapAction, hq] at h
  case tlr =>
    cases h
    exact .of_update (.testLogicReset s)
  case uir | cdr | udr =>
    obtain ⟨i, -, hi⟩ := runCode_next h
    exact exec_blockStep hi
  all_goals
    cases h
    exact .of_block rfl

theorem tck_blockStep (tms tdi : Bool) (s : State) : BlockStep s (tck tms tdi s) := by
  obtain ⟨t, ht, e⟩ | ⟨f, -, e⟩ | ⟨r, -, e | e⟩ := tck_cases tms tdi s <;> rw [e]
  · exact (tapAction_blockStep ht).then_kept rfl
  all_goals exact .of_block rfl

theorem cpuTurn_blockStep (m : CpuMove) (s : State) : BlockStep s (cpuTurn m s) := by
  obtain e | ⟨a, -, ha, -, e⟩ | ⟨a, -, e⟩ | ⟨hm, -, e⟩ | ⟨hm, e⟩ := cpuTurn_cases m s <;> rw [e]
  · exact .of_block rfl
  · exact .of_update (.post a s ha)
  · exact .of_block rfl
  · exact .of_update (.leaveDebug s hm)
  · exact .of_update (.debugEntry s hm)

theorem flashTurn_blockStep (m : FlashMove) (s : State) : BlockStep s (flashTurn m s) := by
  cases m <;> simp only [flashTurn] <;> split_ifs
  · exact .of_update (.configure s)
  · exact .of_block rfl
  · exact .of_update (.finishErase s)
  · exact .of_block rfl

/-! ## Turns -/

theorem HostOnly.refl (s : State) : HostOnly s s := ⟨_, _, _, _, rfl⟩

theorem HostOnly.trans {s t u : State} (h : HostOnly s t) (h' : HostOnly t u) : HostOnly s u := by
  obtain ⟨_, _, _, _, rfl⟩ := h
  obtain ⟨_, _, _, _, rfl⟩ := h'
  exact ⟨_, _, _, _, rfl⟩

theorem recordTdo_hostOnly (b : Option Bool) (s : State) : HostOnly s (recordTdo b s) := by
  obtain ⟨rx, e | e⟩ := recordTdo_cases b s <;> rw [e] <;> exact ⟨_, _, _, _, rfl⟩

/-- A turn of the host does the host's own bookkeeping, and at most one TCK cycle before it. -/
def HostMove (s t : State) : Prop :=
  HostOnly s t ∨ ∃ tms tdi h, HostOnly (tck tms tdi (s.setHost h)) t

theorem hostTurn_move (s : State) : HostMove s (hostTurn s) := by
  unfold hostTurn
  split
  · exact .inl (.refl s)
  · next task rest _ =>
    cases task with
    | cycle c =>
      refine .inr ⟨c.tms, c.tdi, { s.host with todo := rest }, ?_⟩
      obtain e | e := cycle_cases c (s.setHost { s.host with todo := rest }) <;> rw [runTask, e]
      · exact .refl _
      · exact recordTdo_hostOnly _ _
    | _ => exact .inl (HostOnly.trans ⟨_, _, _, _, rfl⟩ (runTask_hostOnly _ _ nofun))

theorem garbledTurn_move (s : State) : HostMove s (garbledTurn s) := by
  unfold garbledTurn
  split
  · next c rest _ =>
    dsimp only
    split_ifs
    · exact .inr ⟨_, _, _, (recordTdo_hostOnly none _).trans ⟨_, _, _, _, rfl⟩⟩
    · exact .inr ⟨_, _, _, .refl _⟩
    · exact hostTurn_move s
  · exact hostTurn_move s

theorem transportFails_move (s : State) : HostMove s (transportFails s) := by
  obtain ⟨e, -⟩ | ⟨e, -⟩ := transportFails_cases s <;> rw [e]
  · exact .inl (.refl s)
  · exact .inl ⟨_, _, _, _, rfl⟩

/-- A turn, once it is off the agenda, is a move of the host, the CPU or the flash agent, or a power-on. -/
theorem nextTurn_cases (s : State) :
    ∃ u : State, u.block = s.block ∧ u.scanPath = s.scanPath ∧
      (HostMove u (nextTurn s) ∨ (∃ m, nextTurn s = cpuTurn m u) ∨ (∃ m, nextTurn s = flashTurn m u) ∨
        nextTurn s = powerOn u) := by
  unfold nextTurn
  split
  · exact ⟨s, rfl, rfl, .inl (hostTurn_move s)⟩
  · next turn rest _ =>
    refine ⟨{ s with agenda := rest }, rfl, rfl, ?_⟩
    cases turn with
    | host => exact .inl (hostTurn_move _)
    | cpu m => exact .inr (.inl ⟨m, rfl⟩)
    | flash m => exact .inr (.inr (.inl ⟨m, rfl⟩))
    | hostGarbled => exact .inl (garbledTurn_move _)
    | transportFail => exact .inl (transportFails_move _)
    | powerOn => exact .inr (.inr (.inr rfl))

theorem HostMove.blockStep {s t : State} (h : HostMove s t) : BlockStep s t := by
  obtain h | ⟨tms, tdi, hst, h⟩ := h
  · exact .of_block h.block
  · exact ((tck_blockStep tms tdi (s.setHost hst)).after_kept rfl).then_kept h.block

theorem nextTurn_blockStep (s : State) : BlockStep s (nextTurn s) := by
  obtain ⟨u, hu, -, h | ⟨m, e⟩ | ⟨m, e⟩ | e⟩ := nextTurn_cases s
  · exact h.blockStep.after_kept hu
  · exact e ▸ (cpuTurn_blockStep m u).after_kept hu
  · exact e ▸ (flashTurn_blockStep m u).after_kept hu
  · exact e ▸ (BlockStep.of_update (.powerOn u)).after_kept hu

theorem step_blockStep {s t : State} (h : step s = .next t) : BlockStep s t := by
  obtain ⟨-, -, rfl⟩ := step_next h
  exact nextTurn_blockStep s

/-- Settles O55: every update of the list keeps the parameters. -/
theorem stepKeepsTheParameters : Obligations.StepKeepsTheParameters :=
  fun _ _ h => (step_blockStep h).cfg

/-! ## The width of the shift register -/

/-- A data scan is entered at Capture-DR; inside it Shift-DR, the Exit states and Pause-DR lead on (40 R140). -/
theorem inDrScan_next {q : TapState} {tms : Bool} (h : inDrScan (q.next tms) = true) :
    q = .cdr ∨ q = .sdr ∨ q ∈ [TapState.e1d, .pdr, .e2d] := by
  revert h
  cases q <;> cases tms <;> decide

theorem tapAction_sdr (tdi : Bool) {s : State} (h : s.tapState = .sdr) :
    tapAction tdi s = .next { s with drShift := shiftDr tdi s.drShift } := by
  simp [tapAction, h]

theorem tapAction_exit_or_pause (tdi : Bool) {s : State} (h : s.tapState ∈ [TapState.e1d, .pdr, .e2d]) :
    tapAction tdi s = .next s := by
  simp only [List.mem_cons, List.not_mem_nil, or_false] at h
  obtain h | h | h := h <;> simp [tapAction, h]

/-- A capture that loads `w` bits, as the meaning of its TAP instruction at Capture-DR. -/
theorem tapInstr_capture {code : IrCode} {atIr cap : State → State} {upd : State → Result} {s t : State} {w : Nat}
    (h : tapInstr code atIr cap upd s = .next t) (hq : s.tapState = .cdr) (hc : CaptureOnly s (cap s))
    (hw : (cap s).drShift.length = w) : CaptureOnly s t ∧ t.drShift.length = w := by
  simp only [tapInstr, hq, Outcome.next.injEq] at h
  subst h
  exact ⟨hc, hw⟩

/-- At Capture-DR a listed TAP instruction loads a register of its own width, and touches nothing else of the scan
path (10 R26, 40 R151). -/
theorem exec_capture {v : IrCode} {i : Instr} {s t : State} (hi : decodeIr s.cfg.codes s.tapSel v = .ok i)
    (hq : s.tapState = .cdr) (ho : allOrderLegal s.cfg.allOrder = true) (h : exec i s = .next t) :
    CaptureOnly s t ∧ t.drShift.length = drWidth s.cfg i := by
  cases i with
  | swMtap | swEtap | etapEjtagboot => exact tapInstr_capture h hq ⟨_, _, _, rfl⟩ rfl
  | bypass | etapNormalboot => exact tapInstr_capture (ifAdmitted_next h).2 hq ⟨_, _, _, rfl⟩ rfl
  | mtapIdcode => exact tapInstr_capture h hq ⟨_, _, _, rfl⟩ (bitsOf_length _)
  | etapIdcode | etapImpcode => exact tapInstr_capture (ifAdmitted_next h).2 hq ⟨_, _, _, rfl⟩ (bitsOf_length _)
  | etapData => exact tapInstr_capture ((exec_etapData s).symm.trans h) hq ⟨_, _, _, rfl⟩ (bitsOf_length _)
  | mtapCommand => exact tapInstr_capture h hq ⟨_, _, _, rfl⟩ rfl
  | etapAddress => exact tapInstr_capture (ifAdmitted_next h).2 hq ⟨_, _, _, rfl⟩ (s.addrBits_length _)
  | etapControl => exact tapInstr_capture h hq ⟨_, _, _, rfl⟩ (s.ecrBits_length _)
  | etapAll =>
    refine tapInstr_capture (ifAdmitted_next h).2 hq ⟨_, _, _, rfl⟩ ?_
    simp [captureAll, List.length_flatMap, ← allOrder_width ho]
  | etapFastdata =>
    refine tapInstr_capture ((exec_etapFastdata s).symm.trans h) hq ⟨_, _, _, rfl⟩ ?_
    simp [captureFastdata, drWidth]
  | mchpStatus | mchpAssertRst | mchpDeassertRst | mchpErase | mchpFlashEnable | mchpFlashDisable =>
    exact absurd (decodeIr_mem hi) (by cases s.tapSel <;> simp [irRows])

/-- The action of a state and the move out of it keep the clause on the shift register: Capture-DR establishes it, and inside the scan the
length stays. -/
theorem tapAction_shiftWidth {tdi : Bool} {s t : State} (tms : Bool) (ho : allOrderLegal s.cfg.allOrder = true)
    (hs : s.ShiftWidth) (h : tapAction tdi s = .next t) :
    ({ t with tapState := s.tapState.next tms } : State).ShiftWidth := by
  intro hscan
  obtain hq | hq | hq := inDrScan_next hscan
  · obtain ⟨i, hi, hx⟩ := runCode_next (by simpa [tapAction, hq] using h)
    obtain ⟨⟨_, _, _, rfl⟩, hlen⟩ := exec_capture hi hq ho hx
    exact ⟨i, hi, hlen⟩
  · obtain ⟨i, hi, hlen⟩ := hs (by rw [hq]; rfl)
    obtain rfl := Outcome.next.inj ((tapAction_sdr tdi hq).symm.trans h)
    exact ⟨i, hi, by simpa using hlen⟩
  · obtain rfl := Outcome.next.inj ((tapAction_exit_or_pause tdi hq).symm.trans h)
    refine hs ?_
    simp only [List.mem_cons, List.not_mem_nil, or_false] at hq
    obtain hq | hq | hq := hq <;> rw [hq] <;> rfl

theorem tck_shiftWidth (tms tdi : Bool) {s : State} (ho : allOrderLegal s.cfg.allOrder = true) (hs : s.ShiftWidth) :
    (tck tms tdi s).ShiftWidth := by
  unfold tck
  cases h : tapAction tdi s with
  | next t => exact tapAction_shiftWidth tms ho hs h
  | fault f => exact shiftWidth_of_scanPath rfl hs
  | refused r =>
    by_cases hu : s.tapState = .uir
    · exact fun hscan => absurd hscan (by simp [refuseAction, hu, inDrScan])
    · exact shiftWidth_of_scanPath (by simp [refuseAction, hu, State.scanPath]) hs

theorem cpuTurn_scanPath (m : CpuMove) (s : State) : (cpuTurn m s).scanPath = s.scanPath := by
  obtain e | ⟨a, -, -, -, e⟩ | ⟨a, -, e⟩ | ⟨-, -, e⟩ | ⟨-, e⟩ := cpuTurn_cases m s <;> rw [e] <;> rfl

theorem flashTurn_scanPath (m : FlashMove) (s : State) : (flashTurn m s).scanPath = s.scanPath := by
  obtain ⟨_, _, _, e⟩ := flashTurn_cases m s
  rw [e]
  rfl

theorem HostMove.shiftWidth {s t : State} (h : HostMove s t) (ho : allOrderLegal s.cfg.allOrder = true)
    (hs : s.ShiftWidth) : t.ShiftWidth := by
  obtain h | ⟨tms, tdi, hst, h⟩ := h
  · exact shiftWidth_of_scanPath h.scanPath hs
  · exact shiftWidth_of_scanPath h.scanPath (tck_shiftWidth tms tdi ho (s := s.setHost hst) hs)

theorem nextTurn_shiftWidth {s : State} (ho : allOrderLegal s.cfg.allOrder = true) (hs : s.ShiftWidth) :
    (nextTurn s).ShiftWidth := by
  obtain ⟨u, hu, hpath, h⟩ := nextTurn_cases s
  have hsu : u.ShiftWidth := shiftWidth_of_scanPath hpath hs
  obtain h | ⟨m, e⟩ | ⟨m, e⟩ | e := h
  · exact h.shiftWidth (cfg_of_block hu ▸ ho) hsu
  · exact shiftWidth_of_scanPath (e ▸ cpuTurn_scanPath m u) hsu
  · exact shiftWidth_of_scanPath (e ▸ flashTurn_scanPath m u) hsu
  · rw [e]
    exact nofun

/-! ## The invariant -/

/-- Settles O54: the block by the list of updates, the shift register by the states of the scan. -/
theorem stepKeepsTheInvariant : Obligations.StepKeepsTheInvariant := by
  intro s t hs h
  obtain ⟨hblock, hshift⟩ := inv_iff.mp hs
  obtain ⟨-, -, rfl⟩ := step_next h
  exact inv_iff.mpr ⟨(nextTurn_blockStep s).inv hblock, nextTurn_shiftWidth hs.orderOfThree hshift⟩

/-- Settles O53: at reset nothing is pending, asserted, erasing or scanned. -/
theorem resetHasTheInvariant : Obligations.ResetHasTheInvariant where
  pendingInDebug := fun hn => absurd rfl hn
  pendingAddr := nofun
  busyIffErasing := rfl
  resetHolds := nofun
  vectorInDebug := nofun
  noResetRequest := ⟨rfl, rfl⟩
  shiftWidth := nofun
  orderOfThree := rfl

/-- Settles O25: the mark is the first thing that `step` looks at, a fault before a refusal. -/
theorem markedStateStops : Obligations.MarkedStateStops :=
  fun s => ⟨fun f fs hf => by simp [step, hf], fun r hf hr => by simp [step, hf, hr]⟩

end Sys2Proof.Machine
end

section
/-! SUPPORT. The Control value and the status byte read as rows of fields: under a layout that gives every field a position of its own, each
field is shown at its position (10_state.md R31, R32, R42). -/

namespace Sys2Proof.Machine

/-- The bit at position `i` of a register whose fields stand in `rows`; `other` where no field stands. -/
def shownAt (i : Nat) (other : Bool) : List (Nat × Bool) → Bool
  | [] => other
  | (p, b) :: rows => if i = p then b else shownAt i other rows

/-- Where no two fields share a position, each is shown at its own. -/
theorem shownAt_of_mem {rows : List (Nat × Bool)} {p : Nat} {b other : Bool} (hn : (rows.map Prod.fst).Nodup)
    (h : (p, b) ∈ rows) : shownAt p other rows = b := by
  induction rows with
  | nil => cases h
  | cons row rows ih =>
    obtain ⟨q, c⟩ := row
    obtain ⟨hq, hn⟩ := List.nodup_cons.mp hn
    obtain he | hrows := List.mem_cons.mp h
    · cases he
      simp [shownAt]
    · have hne : p ≠ q := by
        rintro rfl
        exact hq (List.mem_map.mpr ⟨(p, b), hrows, rfl⟩)
      simp [shownAt, hne, ih hn hrows]

/-! ## The Control value -/

/-- The fields that the Control value shows, in the order of `State.ecrBit`; `free` is what an open bit of PRnW or Psz reads. -/
def State.ecrRows (s : State) (free : Bool) : List (Nat × Bool) :=
  let l := s.cfg.ecrLayout
  [(l.prAcc, s.prAcc), (l.rocc, s.ecr.rocc), (l.psz, s.pszBit 0 free), (l.psz + 1, s.pszBit 1 free),
    (l.perRst, s.ecr.perRst), (l.prnw, s.prnw free), (l.prRst, s.ecr.prRst), (l.probEn, s.ecr.probEn),
    (l.probTrap, s.ecr.probTrap), (l.ejtagBrk, s.ecr.ejtagBrk), (l.dm, s.dm)]

theorem State.ecrBit_eq_shownAt {n : Nat} (s : State) (d : BitVec n) (i : Nat) :
    s.ecrBit d i = shownAt i (d.getLsbD i) (s.ecrRows (d.getLsbD i)) := rfl

/-- The rows hold all positions of the layout but those of VPED, Doze and Halt. -/
theorem State.ecrRows_nodup {n : Nat} {s : State} (free : Bool) (h : s.cfg.ecrLayout.legal n = true) :
    ((s.ecrRows free).map Prod.fst).Nodup := by
  let l := s.cfg.ecrLayout
  have hsub : ((s.ecrRows free).map Prod.fst).Sublist l.positions :=
    (List.sublist_append_right [l.vped, l.doze, l.halt] _).append_left [l.prAcc, l.rocc, l.psz, l.psz + 1]
  simp only [EcrLayout.legal, Bool.and_eq_true, decide_eq_true_eq] at h
  obtain ⟨⟨hn, -⟩, -⟩ := h
  exact hn.sublist hsub

/-- Under a legal layout the Control value shows each field at its position. -/
theorem State.ecrBit_of_mem {n m : Nat} {s : State} {d : BitVec n} {p : Nat} {b : Bool}
    (h : s.cfg.ecrLayout.legal m = true) (hm : (p, b) ∈ s.ecrRows (d.getLsbD p)) : s.ecrBit d p = b := by
  rw [State.ecrBit_eq_shownAt]
  exact shownAt_of_mem (State.ecrRows_nodup _ h) hm

theorem State.prnw_of_pending {s : State} {a : Access} (h : s.cpu.pending = some a) (free : Bool) :
    s.prnw free = decide (a.kind = .store) := by
  simp only [State.prnw, h]
  cases a.kind <;> rfl

theorem State.pszBit_of_pending {s : State} {a : Access} (h : s.cpu.pending = some a) (j : Nat) (free : Bool) :
    s.pszBit j free = (sizeCode a.size).getLsbD j := by
  simp only [State.pszBit, h]

/-- Settles O9: each view and each stored field has a row of its own. -/
theorem controlValueShowsTheViews : Obligations.ControlValueShowsTheViews := by
  intro s d h l
  have shown {p : Nat} {b : Bool} : (p, b) ∈ s.ecrRows (d.getLsbD p) → s.ecrBit d p = b := State.ecrBit_of_mem h
  refine ⟨shown ?prAcc, fun a ha => ?access, (shown (b := s.dm) ?dm).trans ?mode, shown ?_, shown ?_, shown ?_, shown ?_,
    shown ?_, shown ?_⟩
  case access =>
    have hprnw : s.ecrBit d l.prnw = decide (a.kind = .store) :=
      shown (by simp [State.ecrRows, State.prnw_of_pending ha, l])
    have hpsz0 : s.ecrBit d l.psz = (sizeCode a.size).getLsbD 0 :=
      shown (by simp [State.ecrRows, State.pszBit_of_pending ha, l])
    have hpsz1 : s.ecrBit d (l.psz + 1) = (sizeCode a.size).getLsbD 1 :=
      shown (by simp [State.ecrRows, State.pszBit_of_pending ha, l])
    rw [hpsz0, hpsz1]
    refine ⟨hprnw, ?_, ?_, ?_⟩ <;> intro hs <;> rw [hs] <;> exact ⟨rfl, rfl⟩
  case mode =>
    simp only [State.dm]
    cases s.cpu.mode <;> rfl
  all_goals simp [State.ecrRows, State.prAcc, l]

/-! ## The status byte -/

/-- The flags of the status byte, in the order of `State.statusBit`; `free` is what CPS reads before the configuration (41 R205). -/
def State.statusRows (s : State) (free : Bool) : List (Nat × Bool) :=
  let l := s.cfg.statusLayout
  [(l.cps, if s.mtap.cpsKnown then s.mtap.cps else free), (l.nvmErr, s.mtap.nvmErr), (l.cfgRdy, s.mtap.cfgRdy),
    (l.fcBusy, s.mtap.fcBusy), (l.faen, s.mtap.faen), (l.devRst, s.mtap.devRst)]

theorem State.statusBit_eq_shownAt (s : State) (d : Byte) (i : Nat) :
    s.statusBit d i = shownAt i (d.getLsbD i) (s.statusRows (d.getLsbD i)) := rfl

theorem State.statusByte_getLsbD (s : State) (d : Byte) {i : Nat} (h : i < 8) :
    (ofBits 8 (s.statusBits d)).getLsbD i = s.statusBit d i := by
  simp [ofBits_getLsbD, State.statusBits, h, -BitVec.getLsbD_eq_getElem]

/-- Under a legal layout the status byte shows each flag at its position. -/
theorem State.statusByte_of_mem {s : State} {d : Byte} {p : Nat} {b : Bool} (h : s.cfg.statusLayout.legal = true)
    (hm : (p, b) ∈ s.statusRows (d.getLsbD p)) : (ofBits 8 (s.statusBits d)).getLsbD p = b := by
  simp only [StatusLayout.legal, Bool.and_eq_true, decide_eq_true_eq, List.all_eq_true] at h
  obtain ⟨hnodup, hbyte⟩ := h
  have hp : p < 8 := hbyte p (List.mem_map_of_mem (f := Prod.fst) hm)
  rw [State.statusByte_getLsbD s d hp, State.statusBit_eq_shownAt]
  exact shownAt_of_mem hnodup hm

/-- Settles O14: each flag has a row of its own. -/
theorem statusByteShowsTheFlags : Obligations.StatusByteShowsTheFlags := by
  intro s d h l st
  have shown {p : Nat} {b : Bool} : (p, b) ∈ s.statusRows (d.getLsbD p) → st.getLsbD p = b := State.statusByte_of_mem h
  refine ⟨fun hknown => shown ?cps, shown ?_, shown ?_, shown ?_, shown ?_, shown ?_⟩
  case cps => simp [State.statusRows, hknown, l]
  all_goals simp [State.statusRows, l]

end Sys2Proof.Machine
end

section
/-! SUPPORT. The host's cycles and its plan (20_memory.md R83): a TCK cycle neither reads nor writes the turns and the tasks still to come, so the
host's steps over a row of cycles are the run of those cycles. -/

namespace Sys2Proof.Machine

open Host (Outcome)

/-! ## The plan -/

/-- `s` with these turns of the agents and these tasks of the host still to come. -/
def State.withPlan (ts : List Turn) (todo : List HostTask) (s : State) : State :=
  { s with agenda := ts, host := { s.host with todo := todo } }

/-- The outcome of a meaning, its next state with another plan. -/
def replan (ts : List Turn) (todo : List HostTask) : Result → Result
  | .next s => .next (s.withPlan ts todo)
  | .fault f => .fault f
  | .refused r => .refused r

/-- An update that neither reads nor writes the plan. -/
def PlanFree (f : State → State) : Prop := ∀ ts todo s, f (s.withPlan ts todo) = (f s).withPlan ts todo

/-- A meaning that neither reads nor writes the plan. -/
def PlanFreeRun (m : State → Result) : Prop := ∀ ts todo s, m (s.withPlan ts todo) = replan ts todo (m s)

@[simp] theorem State.withPlan_unmarked (ts : List Turn) (todo : List HostTask) (s : State) :
    (s.withPlan ts todo).unmarked = s.unmarked := rfl

/-- In a state with no turn listed, to pop the host's task is to give it another plan. -/
theorem popped_eq_withPlan {s : State} (h : s.agenda = []) (rest : List HostTask) :
    popped rest s = s.withPlan [] rest := by
  rw [← h]
  rfl

/-- A plan-free update leaves the turns to come. -/
theorem PlanFree.agenda {f : State → State} (hf : PlanFree f) (s : State) : (f s).agenda = s.agenda :=
  (congrArg State.agenda (hf s.agenda s.host.todo s) :)

/-- A plan-free update leaves the tasks to come. -/
theorem PlanFree.todo {f : State → State} (hf : PlanFree f) (s : State) : (f s).host.todo = s.host.todo :=
  (congrArg (fun t => t.host.todo) (hf s.agenda s.host.todo s) :)

theorem PlanFree.next {f : State → State} (hf : PlanFree f) : PlanFreeRun (fun s => .next (f s)) :=
  fun ts todo s => congrArg Outcome.next (hf ts todo s)

theorem PlanFree.comp {f g : State → State} (hg : PlanFree g) (hf : PlanFree f) : PlanFree (fun s => g (f s)) :=
  fun ts todo s => (congrArg g (hf ts todo s)).trans (hg ts todo (f s))

theorem PlanFreeRun.comp {m : State → Result} {f : State → State} (hm : PlanFreeRun m) (hf : PlanFree f) :
    PlanFreeRun (fun s => m (f s)) :=
  fun ts todo s => (congrArg m (hf ts todo s)).trans (hm ts todo (f s))

section

variable {p : State → Prop} [DecidablePred p]

/-- A choice on a condition that does not read the plan. -/
theorem PlanFree.ite {f g : State → State} (hp : ∀ ts todo s, p (State.withPlan ts todo s) ↔ p s) (hf : PlanFree f)
    (hg : PlanFree g) : PlanFree (fun s => if p s then f s else g s) := by
  intro ts todo s
  by_cases h : p s
  · simp [hp, h, hf ts todo s]
  · simp [hp, h, hg ts todo s]

theorem PlanFreeRun.ite {f g : State → Result} (hp : ∀ ts todo s, p (State.withPlan ts todo s) ↔ p s)
    (hf : PlanFreeRun f) (hg : PlanFreeRun g) : PlanFreeRun (fun s => if p s then f s else g s) := by
  intro ts todo s
  by_cases h : p s
  · simp [hp, h, hf ts todo s]
  · simp [hp, h, hg ts todo s]

end

/-! ## Shared operations -/

theorem completeAccess_planFree : PlanFree completeAccess := by
  intro ts todo s
  obtain hp | ⟨a, hp⟩ := Option.eq_none_or_eq_some s.cpu.pending
  · rw [completeAccess_none hp, completeAccess_none (s := s.withPlan ts todo) hp]
  · rw [completeAccess_some hp, completeAccess_some (s := s.withPlan ts todo) hp]
    rfl

theorem ecrApply_planFree {n : Nat} (v : BitVec n) : PlanFree (ecrApply v) := by
  have hcompleted : PlanFree (fun s => if writeAs s.cfg.ecrAccess.prAcc s.prAcc (v.getLsbD s.cfg.ecrLayout.prAcc)
      then s else completeAccess s) := .ite (fun _ _ _ => .rfl) (fun _ _ _ => rfl) completeAccess_planFree
  exact fun ts todo s =>
    congrArg (fun u => u.setEcr (ecrFields s.cfg.ecrLayout s.cfg.ecrAccess v u.ecr)) (hcompleted ts todo s)

theorem ecrWrite_planFree {n : Nat} (v : BitVec n) : PlanFreeRun (ecrWrite v) := by
  intro ts todo s
  have hl : (s.withPlan ts todo).cfg.ecrLayout = s.cfg.ecrLayout := rfl
  unfold ecrWrite
  rw [hl]
  cases ecrFault s.cfg.ecrLayout v with
  | some f => rfl
  | none => exact (ecrApply_planFree v).next ts todo s

theorem cpuResetExit_planFree : PlanFree cpuResetExit := by
  have hrun : PlanFree (fun s => if s.ecr.ejtagBrk then debugExceptionEntry s else s) :=
    .ite (fun _ _ _ => .rfl) (fun _ _ _ => rfl) (fun _ _ _ => rfl)
  exact .ite (fun _ _ _ => .rfl) (fun _ _ _ => rfl)
    (hrun.comp (f := fun s => s.setCpu { s.cpu with mode := .run, pc := s.cfg.resetVector, atVector := false })
      fun _ _ _ => rfl)

theorem releaseReset_planFree : PlanFree releaseReset :=
  .ite (fun _ _ _ => .rfl) (cpuResetExit_planFree.comp (f := fun s => s.setMtap { s.mtap with devRst := false })
    fun _ _ _ => rfl) (fun _ _ _ => rfl)

theorem voidReply_planFree : PlanFree voidReply :=
  .ite (fun _ _ _ => .rfl) (fun _ _ _ => rfl) (fun _ _ _ => rfl)

theorem lookedAtCps_planFree : PlanFree State.lookedAtCps :=
  .ite (fun _ _ _ => .rfl) (fun _ _ _ => rfl) (fun _ _ _ => rfl)

theorem unlessProtected_planFree (op : MchpOp) {run : State → Result} (h : PlanFreeRun run) :
    PlanFreeRun (unlessProtected op run) :=
  .ite (fun _ _ _ => .rfl) (h.comp lookedAtCps_planFree) (fun _ _ _ => rfl)

theorem ifAdmitted_planFree (code : IrCode) {run : State → Result} (h : PlanFreeRun run) :
    PlanFreeRun (ifAdmitted code run) :=
  .ite (fun _ _ _ => .rfl) h (fun _ _ _ => rfl)

theorem noUpdate_planFree : PlanFreeRun noUpdate := fun _ _ _ => rfl

/-- A TAP instruction is plan-free where its three actions are. -/
theorem tapInstr_planFree (code : IrCode) {atIr cap : State → State} {upd : State → Result} (hir : PlanFree atIr)
    (hcap : PlanFree cap) (hupd : PlanFreeRun upd) : PlanFreeRun (tapInstr code atIr cap upd) := by
  intro ts todo s
  have hq : (s.withPlan ts todo).tapState = s.tapState := rfl
  unfold tapInstr
  rw [hq]
  cases s.tapState with
  | uir => exact congrArg Outcome.next (hir ts todo (s.latchIr code))
  | cdr => exact hcap.next ts todo s
  | udr => exact hupd ts todo s
  | _ => rfl

/-! ## Meanings -/

theorem fastdataTransfer_planFree (w : Word) : PlanFree (fastdataTransfer w) := by
  intro ts todo s
  have hp : (s.withPlan ts todo).cpu.pending = s.cpu.pending := rfl
  unfold fastdataTransfer
  rw [hp]
  cases s.cpu.pending with
  | none => rfl
  | some a =>
    exact completeAccess_planFree.comp
      (.ite (p := fun _ => a.kind = .load) (f := State.setEjData w) (g := fun s => s) (fun _ _ _ => .rfl) (fun _ _ _ => rfl)
        fun _ _ _ => rfl) ts todo s

theorem fastdataUpdate_planFree : PlanFree fastdataUpdate :=
  .ite (fun _ _ _ => .rfl) (fun ts todo s => fastdataTransfer_planFree (fastdataParts s.drShift).2 ts todo s)
    (fun _ _ _ => rfl)

theorem allUpdate_planFree : PlanFreeRun allUpdate := by
  intro ts todo s
  have hcfg : (s.withPlan ts todo).cfg = s.cfg := rfl
  have hshift : (s.withPlan ts todo).drShift = s.drShift := rfl
  unfold allUpdate
  dsimp only
  rw [hcfg, hshift]
  generalize ofBits s.cfg.ecrLen (allPart s.cfg .control s.cfg.allOrder s.drShift) = v
  generalize ofBits 32 (allPart s.cfg .data s.cfg.allOrder s.drShift) = w
  have hdataFirst : PlanFree fun s => ecrApply v (s.bump.setEjData w) :=
    (ecrApply_planFree v).comp (f := fun s => s.bump.setEjData w) fun _ _ _ => rfl
  have hcontrolFirst : PlanFree fun s => (ecrApply v s.bump).setEjData w := fun ts todo s =>
    congrArg (State.setEjData w) (ecrApply_planFree v ts todo s.bump)
  cases ecrFault s.cfg.ecrLayout v with
  | some f => rfl
  | none =>
    exact PlanFreeRun.ite (p := fun s => (Config.free 1 s.draws).getLsbD 0 = true) (fun _ _ _ => .rfl)
      hdataFirst.next hcontrolFirst.next ts todo s

theorem controlUpdate_planFree : PlanFreeRun fun s => ecrWrite (ofBits s.cfg.ecrLen s.drShift) s :=
  fun ts todo s => ecrWrite_planFree (ofBits s.cfg.ecrLen s.drShift) ts todo s

theorem execMchpAssertRst_planFree : PlanFreeRun execMchpAssertRst :=
  unlessProtected_planFree _ (voidReply_planFree.comp (f := assertReset) fun _ _ _ => rfl).next

theorem execMchpDeassertRst_planFree : PlanFreeRun execMchpDeassertRst :=
  unlessProtected_planFree _ (voidReply_planFree.comp releaseReset_planFree).next

theorem execMchpErase_planFree : PlanFreeRun execMchpErase :=
  .ite (fun _ _ _ => .rfl)
    (.ite (fun _ _ _ => .rfl)
      (voidReply_planFree.comp (f := fun s => startErase s.bump) fun _ _ _ => rfl).next
      (voidReply_planFree.comp (f := fun s => s.bump.setMtap { s.mtap with fcBusy := true }) fun _ _ _ => rfl).next)
    (voidReply_planFree.comp (f := startErase) fun _ _ _ => rfl).next

theorem setFaen_planFree (b : Bool) : PlanFree (fun s => s.setMtap { s.mtap with faen := b }) := fun _ _ _ => rfl

theorem execMchpFlashEnable_planFree : PlanFreeRun execMchpFlashEnable :=
  unlessProtected_planFree _ <|
    .ite (fun _ _ _ => .rfl) (fun _ _ _ => rfl) (voidReply_planFree.comp (setFaen_planFree true)).next

theorem execMchpFlashDisable_planFree : PlanFreeRun execMchpFlashDisable :=
  unlessProtected_planFree _ <|
    .ite (fun _ _ _ => .rfl) (fun _ _ _ => rfl) (voidReply_planFree.comp (setFaen_planFree false)).next

theorem mchpExec_planFree : PlanFreeRun mchpExec := by
  intro ts todo s
  have hcodes : (s.withPlan ts todo).cfg.codes = s.cfg.codes := rfl
  have hshift : (s.withPlan ts todo).drShift = s.drShift := rfl
  unfold mchpExec
  dsimp only
  rw [hcodes, hshift]
  cases decodeMchp s.cfg.codes (ofBits 8 s.drShift) with
  | error e => rfl
  | ok i =>
    cases i with
    | mchpAssertRst => exact execMchpAssertRst_planFree ts todo s
    | mchpDeassertRst => exact execMchpDeassertRst_planFree ts todo s
    | mchpErase => exact execMchpErase_planFree ts todo s
    | mchpFlashEnable => exact execMchpFlashEnable_planFree ts todo s
    | mchpFlashDisable => exact execMchpFlashDisable_planFree ts todo s
    | _ => rfl

theorem exec_planFree (i : Instr) : PlanFreeRun (exec i) := by
  intro ts todo s
  cases i with
  | mtapIdcode | swMtap | swEtap | etapEjtagboot =>
    exact tapInstr_planFree _ (fun _ _ _ => rfl) (fun _ _ _ => rfl) noUpdate_planFree ts todo s
  | bypass | etapIdcode | etapImpcode | etapAddress | etapNormalboot =>
    exact ifAdmitted_planFree _
      (tapInstr_planFree _ (fun _ _ _ => rfl) (fun _ _ _ => rfl) noUpdate_planFree) ts todo s
  | mtapCommand => exact tapInstr_planFree _ (fun _ _ _ => rfl) (fun _ _ _ => rfl) mchpExec_planFree ts todo s
  | etapData =>
    exact tapInstr_planFree _ (fun _ _ _ => rfl) (fun _ _ _ => rfl)
      (PlanFree.next (f := fun s => s.setEjData (ofBits 32 s.drShift)) fun _ _ _ => rfl) ts todo s
  | etapControl => exact tapInstr_planFree _ (fun _ _ _ => rfl) (fun _ _ _ => rfl) controlUpdate_planFree ts todo s
  | etapAll =>
    exact ifAdmitted_planFree _ (tapInstr_planFree _ (fun _ _ _ => rfl) (fun _ _ _ => rfl) allUpdate_planFree) ts todo s
  | etapFastdata =>
    exact tapInstr_planFree _ (fun _ _ _ => rfl) (fun _ _ _ => rfl) fastdataUpdate_planFree.next ts todo s
  | mchpStatus => exact noUpdate_planFree ts todo s
  | mchpAssertRst => exact execMchpAssertRst_planFree ts todo s
  | mchpDeassertRst => exact execMchpDeassertRst_planFree ts todo s
  | mchpErase => exact execMchpErase_planFree ts todo s
  | mchpFlashEnable => exact execMchpFlashEnable_planFree ts todo s
  | mchpFlashDisable => exact execMchpFlashDisable_planFree ts todo s

/-! ## Cycles -/

theorem runCode_error {v : IrCode} {s : State} {e : DecodeError} (h : decodeIr s.cfg.codes s.tapSel v = .error e) :
    runCode v s = .refused (.unmodelledIr s.tapSel v) := by
  simp [runCode, h]

theorem runCode_planFree (v : IrCode) : PlanFreeRun (runCode v) := by
  intro ts todo s
  cases hi : decodeIr s.cfg.codes s.tapSel v with
  | ok i =>
    rw [runCode_ok hi, runCode_ok (s := s.withPlan ts todo) hi]
    exact exec_planFree i ts todo s
  | error e =>
    rw [runCode_error hi, runCode_error (s := s.withPlan ts todo) hi]
    rfl

theorem tapAction_planFree (tdi : Bool) : PlanFreeRun (tapAction tdi) := by
  intro ts todo s
  have hq : (s.withPlan ts todo).tapState = s.tapState := rfl
  unfold tapAction
  rw [hq]
  cases s.tapState with
  | uir => exact runCode_planFree s.irShift.code ts todo s
  | cdr | udr => exact runCode_planFree s.ir ts todo s
  | _ => rfl

theorem tck_planFree (tms tdi : Bool) : PlanFree (tck tms tdi) := by
  intro ts todo s
  unfold tck
  rw [tapAction_planFree tdi ts todo s]
  cases tapAction tdi s with
  | next t => rfl
  | fault f => rfl
  | refused r =>
    exact PlanFree.ite (p := fun s => s.tapState = .uir) (f := fun s => (s.latchIr s.irShift.code).refuse r)
      (fun _ _ _ => .rfl) (fun _ _ _ => rfl) (fun _ _ _ => rfl) ts todo s

theorem recordTdo_planFree (b : Option Bool) : PlanFree (recordTdo b) := by
  cases b <;> exact fun _ _ _ => rfl

theorem cycle_planFree (c : Cycle) : PlanFree (cycle c) := by
  intro ts todo s
  have htdo : (s.withPlan ts todo).tdo = s.tdo := rfl
  unfold cycle
  dsimp only
  rw [tck_planFree c.tms c.tdi ts todo s, htdo]
  exact PlanFree.ite (p := fun t => (t.unmarked && c.rd) = true) (fun _ _ _ => .rfl) (recordTdo_planFree s.tdo)
    (g := fun t => t) (fun _ _ _ => rfl) ts todo (tck c.tms c.tdi s)

/-- A step of a host whose next task is a cycle performs that cycle. -/
theorem step_cycle {s : State} {c : Cycle} {rest : List HostTask} (hs : s.unmarked = true) (ha : s.agenda = [])
    (ht : s.host.todo = .cycle c :: rest) : step s = .next (cycle c (popped rest s)) := by
  obtain ⟨hf, hr⟩ := unmarked_iff.mp hs
  rw [step_unmarked hf hr]
  simp only [nextTurn, ha, hostTurn, ht]
  rfl

/-- A run of cycles that leaves no mark has met none before. -/
theorem cycles_cons {c : Cycle} {cs : List Cycle} {s : State} (h : (cycles (c :: cs) s).unmarked = true) :
    (cycle c s).unmarked = true ∧ cycles (c :: cs) s = cycles cs (cycle c s) := by
  by_cases hu : (cycle c s).unmarked = true
  · exact ⟨hu, by simp [cycles, hu]⟩
  · simp [cycles, hu] at h

theorem core_run_succ {n : Nat} {s t : State} (h : step s = .next t) :
    Host.Core.run Sys2Proof.core (n + 1) s = Host.Core.run Sys2Proof.core n t := by
  simp [Host.Core.run, Sys2Proof.core, h]

/-- Settles O34, by induction on the cycles: a cycle does not see which tasks are still to come, so the first step may be taken from the state
that the run of the cycles starts from. -/
theorem stepsPerformTheCyclesInOrder : Obligations.StepsPerformTheCyclesInOrder := by
  intro s cs rest hs ha ht hu
  induction cs generalizing s with
  | nil =>
    have hpop : popped rest s = s := by
      simp only [List.map_nil, List.nil_append] at ht
      rw [← ht]
      rfl
    exact congrArg Outcome.next hpop.symm
  | cons c cs ih =>
    obtain ⟨hmark, hrun⟩ := cycles_cons hu
    let t := cycle c (popped (cs.map .cycle ++ rest) s)
    have hstep : step s = .next t := step_cycle hs ha ht
    have hagenda : t.agenda = [] := ((cycle_planFree c).agenda _).trans ha
    have hpop : popped rest t = cycle c (popped rest s) := by
      rw [popped_eq_withPlan hagenda, popped_eq_withPlan ha]
      exact (cycle_planFree c [] rest _).symm
    have hun : (popped rest t).unmarked = true := by rwa [hpop]
    rw [List.length_cons, core_run_succ hstep, hrun, ← hpop]
    exact ih t hun hagenda ((cycle_planFree c).todo _) (by rwa [hpop, ← hrun])

end Sys2Proof.Machine
end

section
/-! SUPPORT. What becomes of a pending access (20_memory.md R85, 42_etap.md R231, R251): no update of the block puts another in its place, and outside
Update-DR a turn that is no power-on leaves it pending. -/

namespace Sys2Proof.Machine

/-! ## No update replaces it -/

theorem not_mayPost_of_pending {a b : Access} {s : State} (h : s.cpu.pending = some a) : mayPost b s ≠ true := by
  simp [mayPost, h]

theorem BlockUpdate.pending {s t : State} {a : Access} (h : BlockUpdate s t) (hp : s.cpu.pending = some a) :
    t.cpu.pending = some a ∨ t.cpu.pending = .none := by
  cases h with
  | completion => exact .inr (completeAccess_pending s)
  | control v =>
    obtain ⟨u, rfl | rfl, e⟩ := ecrApply_cases v s <;> rw [e]
    · exact .inl hp
    · exact .inr (completeAccess_pending s)
  | releaseReset =>
    obtain ⟨_, _, _, e, -, hc⟩ := releaseReset_cases s
    rw [e]
    exact .inl (hc.trans hp)
  | post b _ hpost => exact absurd hpost (not_mayPost_of_pending hp)
  | assertReset | leaveDebug | powerOn => exact .inr rfl
  | _ => exact .inl hp

theorem cpu_of_block {s t : State} (h : t.block = s.block) : t.cpu = s.cpu := congrArg Block.cpu h

theorem BlockStep.pending {s t : State} {a : Access} (h : BlockStep s t) (hp : s.cpu.pending = some a) :
    t.cpu.pending = some a ∨ t.cpu.pending = none := by
  obtain ⟨u, v, hu, huv, hv⟩ := h
  rw [cpu_of_block hv]
  exact huv.pending ((cpu_of_block hu).symm ▸ hp)

/-! ## Outside Update-DR it stays -/

/-- Outside Update-DR a TAP instruction leaves the CPU as it is, where its actions at Update-IR and Capture-DR do. -/
theorem tapInstr_cpu {code : IrCode} {atIr cap : State → State} {upd : State → Result} {s t : State}
    (h : tapInstr code atIr cap upd s = .next t) (hq : s.tapState ≠ .udr) (hir : (atIr (s.latchIr code)).cpu = s.cpu)
    (hcap : (cap s).cpu = s.cpu) : t.cpu = s.cpu := by
  obtain ⟨-, rfl⟩ | ⟨-, rfl⟩ | ⟨hudr, -⟩ | ⟨-, -, -, rfl⟩ := tapInstr_next h
  · exact hir
  · exact hcap
  · exact absurd hudr hq
  · rfl

/-- Outside Update-DR a decoded instruction leaves the CPU as it is: no TAP lists a command (30 R110). -/
theorem exec_cpu {v : IrCode} {i : Instr} {s t : State} (hi : decodeIr s.cfg.codes s.tapSel v = .ok i)
    (hq : s.tapState ≠ .udr) (h : exec i s = .next t) : t.cpu = s.cpu := by
  cases i with
  | mtapIdcode | swMtap | swEtap | mtapCommand | etapControl | etapEjtagboot => exact tapInstr_cpu h hq rfl rfl
  | bypass | etapIdcode | etapImpcode | etapAddress | etapAll | etapNormalboot =>
    exact tapInstr_cpu (ifAdmitted_next h).2 hq rfl rfl
  | etapData => exact tapInstr_cpu ((exec_etapData s).symm.trans h) hq rfl rfl
  | etapFastdata => exact tapInstr_cpu ((exec_etapFastdata s).symm.trans h) hq rfl rfl
  | mchpStatus | mchpAssertRst | mchpDeassertRst | mchpErase | mchpFlashEnable | mchpFlashDisable =>
    exact absurd (decodeIr_mem hi) (by cases s.tapSel <;> simp [irRows])

theorem tapAction_cpu {tdi : Bool} {s t : State} (hq : s.tapState ≠ .udr) (h : tapAction tdi s = .next t) :
    t.cpu = s.cpu := by
  cases hs : s.tapState <;> simp only [tapAction, hs] at h
  case udr => exact absurd hs hq
  case uir | cdr =>
    obtain ⟨i, hi, hx⟩ := runCode_next h
    exact exec_cpu hi hq hx
  all_goals
    cases h
    rfl

theorem tck_cpu (tms tdi : Bool) {s : State} (hq : s.tapState ≠ .udr) : (tck tms tdi s).cpu = s.cpu := by
  obtain ⟨t, ht, e⟩ | ⟨f, -, e⟩ | ⟨r, -, e | e⟩ := tck_cases tms tdi s <;> rw [e]
  · exact (tapAction_cpu hq ht :)
  all_goals rfl

theorem HostMove.cpu {s t : State} (h : HostMove s t) (hq : s.tapState ≠ .udr) : t.cpu = s.cpu := by
  obtain h | ⟨tms, tdi, hst, h⟩ := h
  · exact cpu_of_block h.block
  · exact (cpu_of_block h.block).trans (tck_cpu tms tdi (s := s.setHost hst) hq)

/-- The CPU waits for its access: it posts no other, leaves debug mode with none pending only, and an exception entry keeps it. -/
theorem cpuTurn_pending (m : CpuMove) {s : State} {a : Access} (h : s.cpu.pending = some a) :
    (cpuTurn m s).cpu.pending = some a := by
  obtain e | ⟨b, -, hpost, -⟩ | ⟨b, -, e⟩ | ⟨-, hnone, -⟩ | ⟨-, e⟩ := cpuTurn_cases m s
  · rwa [e]
  · exact absurd hpost (not_mayPost_of_pending h)
  · rwa [e]
  · simp [h] at hnone
  · rw [e]
    exact h

theorem flashTurn_cpu (m : FlashMove) (s : State) : (flashTurn m s).cpu = s.cpu := by
  obtain ⟨_, _, _, e⟩ := flashTurn_cases m s
  rw [e]

theorem runTurn_pending {turn : Turn} {s : State} {a : Access} (hpow : turn ≠ .powerOn) (hq : s.tapState ≠ .udr)
    (h : s.cpu.pending = some a) : (runTurn turn s).cpu.pending = some a := by
  have byHost {t : State} (ht : HostMove s t) : t.cpu.pending = some a := by rwa [ht.cpu hq]
  cases turn with
  | host => exact byHost (hostTurn_move s)
  | cpu m => exact cpuTurn_pending m h
  | flash m => exact (congrArg Cpu.pending (flashTurn_cpu m s)).trans h
  | hostGarbled => exact byHost (garbledTurn_move s)
  | transportFail => exact byHost (transportFails_move s)
  | powerOn => exact absurd rfl hpow

theorem nextTurn_pending {s : State} {a : Access} (hpow : ∀ rest, s.agenda ≠ .powerOn :: rest)
    (hq : s.tapState ≠ .udr) (h : s.cpu.pending = some a) : (nextTurn s).cpu.pending = some a := by
  unfold nextTurn
  split
  · exact runTurn_pending (turn := .host) nofun hq h
  · next turn rest hagenda =>
    refine runTurn_pending ?_ hq h
    rintro rfl
    exact hpow rest hagenda

/-- Settles O58: at Update-DR by the list of updates, elsewhere by the turns. -/
theorem pendingAccessWaitsForTheProbe : Obligations.PendingAccessWaitsForTheProbe := by
  intro s t a hp hstep hpow
  by_cases hq : s.tapState = .udr
  · exact ((step_blockStep hstep).pending hp).imp_right fun hnone => ⟨hq, hnone⟩
  · obtain ⟨-, -, rfl⟩ := step_next hstep
    exact .inl (nextTurn_pending hpow hq hp)

end Sys2Proof.Machine
end

section
/-! SUPPORT. Decoder and encoder are inverse to each other (30_encoding.md R110, R111, R120): both are read off one relation, the rows of the
code tables. -/

namespace Sys2Proof

/-- The TAP's tables have a row that gives the word to the instruction; the commands have rows under MTAP only (41 R198). -/
def RowOf (c : Codes) (t : Tap) (i : Instr) : Code → Prop
  | .ir v => (v, i) ∈ irRows c t
  | .mchp v => t = .mtap ∧ (v, i) ∈ mchpRows c

/-! ## Rows and the decoder -/

/-- What decodes stands in a row, under every code table. -/
theorem rowOf_of_decode {c : Codes} {t : Tap} {w : Code} {i : Instr} (h : decode c t w = .ok i) : RowOf c t i w := by
  cases w with
  | ir v => exact decodeIr_mem h
  | mchp v =>
    by_cases ht : t = .mtap
    · exact ⟨ht, decodeMchp_mem (by simpa [decode, ht] using h)⟩
    · simp [decode, ht] at h

theorem Codes.irRows_nodup {c : Codes} (h : c.legal = true) (t : Tap) : ((irRows c t).map Prod.fst).Nodup := by
  simp only [Codes.legal, Bool.and_eq_true, decide_eq_true_eq] at h
  obtain ⟨⟨hmtap, hetap⟩, -⟩ := h
  cases t with
  | mtap => exact hmtap
  | etap => exact hetap

theorem Codes.mchpRows_nodup {c : Codes} (h : c.legal = true) : ((mchpRows c).map Prod.fst).Nodup := by
  simp only [Codes.legal, Bool.and_eq_true, decide_eq_true_eq] at h
  exact h.2

/-- Under a legal code table what stands in a row decodes. -/
theorem decode_of_rowOf {c : Codes} {t : Tap} {w : Code} {i : Instr} (hc : c.legal = true) (h : RowOf c t i w) :
    decode c t w = .ok i := by
  cases w with
  | ir v => simp [decode, decodeIr, lookup_of_mem (Codes.irRows_nodup hc t) h]
  | mchp v =>
    obtain ⟨rfl, hv⟩ := h
    simp [decode, decodeMchp, lookup_of_mem (Codes.mchpRows_nodup hc) hv]

/-! ## Rows and the encoder -/

theorem encode_of_mem_irRows (c : Codes) (t : Tap) :
    ∀ row ∈ irRows c t, encode c row.2 = .ir row.1 ∧ row.2.decodedBy t = true := by
  cases t <;> simp [irRows, encode, Instr.decodedBy]

theorem encode_of_mem_mchpRows (c : Codes) :
    ∀ row ∈ mchpRows c, encode c row.2 = .mchp row.1 ∧ row.2.decodedBy .mtap = true := by
  simp [mchpRows, encode, Instr.decodedBy]

theorem encode_of_rowOf {c : Codes} {t : Tap} {w : Code} {i : Instr} (h : RowOf c t i w) :
    encode c i = w ∧ i.decodedBy t = true := by
  cases w with
  | ir v => exact encode_of_mem_irRows c t (v, i) h
  | mchp v =>
    obtain ⟨rfl, hv⟩ := h
    exact encode_of_mem_mchpRows c (v, i) hv

/-- The word of an instruction stands in a row of each TAP that lists the instruction. -/
theorem rowOf_encode (c : Codes) {t : Tap} {i : Instr} (h : i.decodedBy t = true) : RowOf c t i (encode c i) := by
  cases i with
  | swMtap | swEtap | bypass => simp [encode, RowOf, irRows]
  | mtapIdcode | mtapCommand =>
    obtain rfl : t = .mtap := by simpa [Instr.decodedBy] using h
    simp [encode, RowOf, irRows]
  | etapIdcode | etapImpcode | etapAddress | etapData | etapControl | etapAll | etapEjtagboot | etapNormalboot
  | etapFastdata =>
    obtain rfl : t = .etap := by simpa [Instr.decodedBy] using h
    simp [encode, RowOf, irRows]
  | mchpStatus | mchpAssertRst | mchpDeassertRst | mchpErase | mchpFlashEnable | mchpFlashDisable =>
    obtain rfl : t = .mtap := by simpa [Instr.decodedBy] using h
    simp [encode, RowOf, mchpRows]

/-! ## The round trips -/

/-- Settles O37: the word of a listed instruction stands in a row, and under a legal table rows decode. -/
theorem decodeOfEncodeIsTheInstruction : Obligations.DecodeOfEncodeIsTheInstruction :=
  fun c _ _ hc hi => decode_of_rowOf hc (rowOf_encode c hi)

/-- Settles O38: what decodes stands in a row, and each row holds the word of its instruction. -/
theorem encodeOfDecodeIsTheWord : Obligations.EncodeOfDecodeIsTheWord :=
  fun _ _ _ _ h => encode_of_rowOf (rowOf_of_decode h)

/-- Settles O36: seven of the words are the default words of their instructions; the last two stand in no row. -/
theorem tableWordsDecode : Obligations.TableWordsDecode := by
  have decodes {t : Tap} {i : Instr} (hi : i.decodedBy t = true) : decode defaultCodes t (encode defaultCodes i) = .ok i :=
    decodeOfEncodeIsTheInstruction defaultCodes t i (by decide) hi
  exact ⟨decodes (t := .mtap) (i := .mtapIdcode) rfl, decodes (t := .etap) (i := .etapIdcode) rfl,
    decodes (t := .mtap) (i := .mtapCommand) rfl, decodes (t := .etap) (i := .etapControl) rfl,
    decodes (t := .etap) (i := .etapFastdata) rfl, decodes (t := .mtap) (i := .mchpAssertRst) rfl,
    decodes (t := .mtap) (i := .mchpErase) rfl, rfl, rfl⟩

end Sys2Proof
end

section
/-! SUPPORT. Scans as cycles (30_encoding.md R101 to R103, R124): the length of a scan, and the reader of a TCK stream, taken once over the data
phase for both registers. -/

namespace Sys2Proof

/-! ## Lengths -/

theorem scanBits_length (n : Nat) (v : ScanWord) : (scanBits n v).length = n := by simp [scanBits]

/-- With data there are three cycles before it and two after it. -/
theorem dataPhase_length (rd : Bool) (bs : List Bool) :
    (dataPhase rd bs).length = if bs.length = 0 then 0 else bs.length + 5 := by
  cases bs with
  | nil => rfl
  | cons b bs => simp [dataPhase, dataCycles_length]

/-- Settles O35. -/
theorem scanHasItsLength : Obligations.ScanHasItsLength := by
  intro lead n v rd
  rw [scanCycles, List.length_append, List.length_map, dataPhase_length, scanBits_length]

/-! ## The reader of a stream -/

/-- The state from which the data phase of an IR scan (`true`) or a DR scan starts: an IR scan's own first cycle has left Run-Test/Idle. -/
def phaseStart : Bool → TapState
  | true => .sds
  | false => .rti

/-- Shift-IR or Shift-DR. -/
def shiftState : Bool → TapState
  | true => .sir
  | false => .sdr

/-- Exit1-IR or Exit1-DR. -/
def exitState : Bool → TapState
  | true => .e1i
  | false => .e1d

/-- Three quiet cycles lead to the shift state, with no bit gathered. -/
theorem readStream_lead (isIr : Bool) (cs : List Cycle) :
    readStream (phaseStart isIr) [] ([quiet true, quiet false, quiet false] ++ cs) = readStream (shiftState isIr) [] cs := by
  cases isIr <;> rfl

/-- One shift cycle gathers its bit. -/
theorem readStream_shift (isIr tms b rd : Bool) (acc : List Bool) (cs : List Cycle) :
    readStream (shiftState isIr) acc (⟨tms, b, rd⟩ :: cs) =
      readStream (if tms then exitState isIr else shiftState isIr) (acc ++ [b]) cs := by
  cases isIr <;> cases tms <;> rfl

/-- The data cycles gather their bits in order, and the last one leaves the shift state. -/
theorem readStream_dataCycles (isIr rd b : Bool) (bs acc : List Bool) (cs : List Cycle) :
    readStream (shiftState isIr) acc (dataCycles rd (b :: bs) ++ cs) = readStream (exitState isIr) (acc ++ b :: bs) cs := by
  induction bs generalizing b acc with
  | nil => exact readStream_shift isIr true b rd acc cs
  | cons b' bs ih =>
    calc readStream (shiftState isIr) acc (dataCycles rd (b :: b' :: bs) ++ cs)
        = readStream (shiftState isIr) (acc ++ [b]) (dataCycles rd (b' :: bs) ++ cs) :=
          readStream_shift isIr false b rd acc _
      _ = readStream (exitState isIr) (acc ++ [b] ++ b' :: bs) cs := ih b' (acc ++ [b])
      _ = readStream (exitState isIr) (acc ++ b :: b' :: bs) cs := by simp

/-- Two quiet cycles pass the Update state, where the bits gathered are reported, and return to Run-Test/Idle. -/
theorem readStream_close (isIr : Bool) (acc : List Bool) (cs : List Cycle) :
    readStream (exitState isIr) acc ([quiet true, quiet false] ++ cs) = ⟨isIr, acc⟩ :: readStream .rti [] cs := by
  cases isIr <;> rfl

/-- A data phase is read as one scan with its bits. -/
theorem readStream_dataPhase (isIr rd : Bool) {bs : List Bool} (h : bs ≠ []) (cs : List Cycle) :
    readStream (phaseStart isIr) [] (dataPhase rd bs ++ cs) = ⟨isIr, bs⟩ :: readStream .rti [] cs := by
  obtain ⟨b, bs, rfl⟩ := List.exists_cons_of_ne_nil h
  rw [dataPhase, List.append_assoc, List.append_assoc, readStream_lead, readStream_dataCycles, List.nil_append,
    readStream_close]

/-- A scan with data is read as itself, and the reader is in Run-Test/Idle again. -/
theorem readStream_scan {x : Scan} (h : x.recorded.bits ≠ []) (cs : List Cycle) :
    readStream .rti [] (x.cycles ++ cs) = x.recorded :: readStream .rti [] cs := by
  cases x with
  | ir c => exact readStream_dataPhase true false h cs
  | dr bits rd => exact readStream_dataPhase false rd h cs

/-- Settles O39, by induction on the scans. -/
theorem streamDecoderRecoversTheScans : Obligations.StreamDecoderRecoversTheScans := by
  intro scans h
  induction scans with
  | nil => rfl
  | cons x xs ih =>
    obtain ⟨hx, hxs⟩ := List.forall_mem_cons.mp h
    rw [List.flatMap_cons, readStream_scan hx, ih hxs, List.map_cons]

end Sys2Proof
end

section
/-! SUPPORT. A code that the selected TAP does not list (30_encoding.md R120) refuses its cycle. -/

namespace Sys2Proof.Machine

/-- A refused cycle leaves the mark and gives the host no bit (60 R371, R375). -/
theorem cycle_of_refused {c : Cycle} {s : State} {r : Refusal} (h : tapAction c.tdi s = .refused r) :
    cycle c s = refuseAction r s := by
  have hmark : (refuseAction r s).unmarked = false := by
    unfold refuseAction
    split <;> simp [State.unmarked, State.refuse]
  simp [cycle, tck, h, hmark]

/-- Settles O24: the fetch fails, so the cycle is refused. -/
theorem unlistedCodeIsRefused : Obligations.UnlistedCodeIsRefused := by
  intro s c rest e ⟨hf, hr, hagenda, htodo⟩ he
  have hstep : step s = .next (cycle c (popped rest s)) := step_cycle (unmarked_iff.mpr ⟨hf, hr⟩) hagenda htodo
  have refused {v : IrCode} (hv : decodeIr s.cfg.codes s.tapSel v = .error e) :
      runCode v (popped rest s) = .refused (.unmodelledIr s.tapSel v) := runCode_error (s := popped rest s) hv
  refine ⟨fun hq => ?_, fun hq => ?_⟩
  · have hv : decodeIr s.cfg.codes s.tapSel s.irShift.code = .error e := by simpa [fetched, hq] using he
    have hact : tapAction c.tdi (popped rest s) = .refused (.unmodelledIr s.tapSel s.irShift.code) := by
      simpa [tapAction, popped, hq] using refused hv
    rw [hstep, cycle_of_refused hact, refuseAction, if_pos (show (popped rest s).tapState = .uir from hq)]
    rfl
  · have hv : decodeIr s.cfg.codes s.tapSel s.ir = .error e := by simpa [fetched, hq] using he
    have hact : tapAction c.tdi (popped rest s) = .refused (.unmodelledIr s.tapSel s.ir) := by
      simpa [tapAction, popped, hq] using refused hv
    rw [hstep, cycle_of_refused hact, refuseAction, if_neg (by simp [popped, hq])]
    rfl

end Sys2Proof.Machine
end

section
/-! SUPPORT. The two Control words of the host's handshake (30_encoding.md R114, 42_etap.md R254): what bits they have under a legal layout, and
what a write of them leaves. -/

namespace Sys2Proof.Machine

/-! ## The bits of the two words -/

theorem ecrMask_getLsbD (p i : Nat) : (ecrMask p).getLsbD i = (decide (i < 64) && decide (i = p)) := by
  rw [ecrMask, BitVec.getLsbD_ofNat, Nat.testBit_two_pow]
  simp [eq_comm]

/-- A legal layout has all its positions in the register and in a scan word of the host. -/
theorem position_lt_of_legal {n : Nat} {l : EcrLayout} (h : l.legal n = true) {p : Nat} (hp : p ∈ l.positions) :
    p < n ∧ p < 64 := by
  simp only [EcrLayout.legal, Bool.and_eq_true, decide_eq_true_eq, List.all_eq_true] at h
  obtain ⟨⟨-, hlt⟩, hn⟩ := h
  exact ⟨hlt p hp, (hlt p hp).trans_le hn⟩

/-- The fields of a Control write, but PrAcc, that the handshake does not ask for. -/
def unaskedFields (l : EcrLayout) : List Nat := [l.rocc, l.perRst, l.prRst, l.ejtagBrk]

/-- In a legal layout PrAcc, ProbEn, ProbTrap and the fields not asked for stand apart. -/
theorem positions_apart_of_legal {n : Nat} {l : EcrLayout} (h : l.legal n = true) :
    (l.prAcc ≠ l.probEn ∧ l.prAcc ≠ l.probTrap) ∧
      ∀ p ∈ unaskedFields l, p ∈ l.positions ∧ p ≠ l.prAcc ∧ p ≠ l.probEn ∧ p ≠ l.probTrap := by
  simp only [EcrLayout.legal, Bool.and_eq_true, decide_eq_true_eq] at h
  obtain ⟨⟨hn, -⟩, -⟩ := h
  simp only [EcrLayout.positions, List.nodup_cons, List.mem_cons, List.not_mem_nil, not_or] at hn
  simp only [unaskedFields, EcrLayout.positions, List.mem_cons]
  grind

/-- A Control word that writes 1 to ProbEn and ProbTrap and 0 to the fields it does not ask for; PrAcc may be either. -/
structure Handshake {n : Nat} (l : EcrLayout) (v : BitVec n) : Prop where
  unasked : ∀ p ∈ unaskedFields l, v.getLsbD p = false
  probEn : v.getLsbD l.probEn = true
  probTrap : v.getLsbD l.probTrap = true

section

variable {n : Nat} {l : EcrLayout} (h : l.legal n = true)

include h

theorem pollWord_getLsbD {p : Nat} (hp : p ∈ l.positions) :
    ((pollWord l).setWidth n).getLsbD p = decide (p = l.prAcc ∨ p = l.probEn ∨ p = l.probTrap) := by
  obtain ⟨hn, h64⟩ := position_lt_of_legal h hp
  simp [pollWord, ecrMask_getLsbD, BitVec.getLsbD_setWidth, -BitVec.getLsbD_eq_getElem, hn, h64, Bool.or_assoc]

theorem releaseWord_getLsbD {p : Nat} (hp : p ∈ l.positions) :
    ((releaseWord l).setWidth n).getLsbD p = decide (p = l.probEn ∨ p = l.probTrap) := by
  obtain ⟨hn, h64⟩ := position_lt_of_legal h hp
  simp [releaseWord, ecrMask_getLsbD, BitVec.getLsbD_setWidth, -BitVec.getLsbD_eq_getElem, hn, h64]

theorem pollWord_handshake : Handshake l ((pollWord l).setWidth n) where
  unasked p hp := by
    obtain ⟨hmem, hprAcc, hprobEn, hprobTrap⟩ := (positions_apart_of_legal h).2 p hp
    simp [pollWord_getLsbD h hmem, hprAcc, hprobEn, hprobTrap, -BitVec.getLsbD_eq_getElem]
  probEn := by rw [pollWord_getLsbD h (by simp [EcrLayout.positions])]; simp
  probTrap := by rw [pollWord_getLsbD h (by simp [EcrLayout.positions])]; simp

theorem releaseWord_handshake : Handshake l ((releaseWord l).setWidth n) where
  unasked p hp := by
    obtain ⟨hmem, -, hprobEn, hprobTrap⟩ := (positions_apart_of_legal h).2 p hp
    simp [releaseWord_getLsbD h hmem, hprobEn, hprobTrap, -BitVec.getLsbD_eq_getElem]
  probEn := by rw [releaseWord_getLsbD h (by simp [EcrLayout.positions])]; simp
  probTrap := by rw [releaseWord_getLsbD h (by simp [EcrLayout.positions])]; simp

/-- The two words differ at PrAcc: the poll word has a 1 there, the release word a 0. -/
theorem pollWord_prAcc : ((pollWord l).setWidth n).getLsbD l.prAcc = true := by
  rw [pollWord_getLsbD h (by simp [EcrLayout.positions])]
  simp

theorem releaseWord_prAcc : ((releaseWord l).setWidth n).getLsbD l.prAcc = false := by
  obtain ⟨⟨hprobEn, hprobTrap⟩, -⟩ := positions_apart_of_legal h
  rw [releaseWord_getLsbD h (by simp [EcrLayout.positions])]
  simp [hprobEn, hprobTrap]

end

/-! ## What a Control write leaves -/

section

variable {n : Nat} (v : BitVec n) (s : State)

@[simp] theorem ecrApply_ecr : (ecrApply v s).ecr = ecrFields s.cfg.ecrLayout s.cfg.ecrAccess v s.ecr := by
  obtain ⟨u, -, e⟩ := ecrApply_cases v s
  rw [e]
  rfl

@[simp] theorem ecrApply_ejData : (ecrApply v s).ejData = s.ejData := by
  obtain ⟨u, rfl | rfl, e⟩ := ecrApply_cases v s <;> rw [e]
  · rfl
  · obtain ⟨-, e⟩ | ⟨a, -, e⟩ := completeAccess_cases s <;> simp [e]

/-- The CPU's access is completed where the write leaves PrAcc at 0, and only there. -/
theorem ecrApply_cpu : (ecrApply v s).cpu =
    if writeAs s.cfg.ecrAccess.prAcc s.prAcc (v.getLsbD s.cfg.ecrLayout.prAcc) then s.cpu else (completeAccess s).cpu := by
  unfold ecrApply
  split <;> rfl

variable {v s}

/-- A 1 written to PrAcc leaves the CPU as it is, whatever the access right. -/
theorem ecrApply_cpu_of_prAcc (h : v.getLsbD s.cfg.ecrLayout.prAcc = true) : (ecrApply v s).cpu = s.cpu := by
  rw [ecrApply_cpu, h]
  cases hp : s.cpu.pending with
  | none => simp [completeAccess_none hp]
  | some a => simp [State.prAcc, hp]

/-- A 0 written to PrAcc completes the access, where it is cleared by a 0. -/
theorem ecrApply_cpu_of_not_prAcc (ha : s.cfg.ecrAccess.prAcc = .w0 ∨ s.cfg.ecrAccess.prAcc = .rw)
    (h : v.getLsbD s.cfg.ecrLayout.prAcc = false) : (ecrApply v s).cpu = (completeAccess s).cpu := by
  rw [ecrApply_cpu, h]
  obtain ha | ha := ha <;> simp [ha]

end

theorem completeAccess_delivered {s : State} {a : Access} (h : s.cpu.pending = some a) :
    (completeAccess s).cpu.delivered = deliver a s.ejData s.cpu.delivered := by
  rw [completeAccess_some h]

/-! ## What a write of them leaves -/

theorem ecrFault_of_handshake {n : Nat} {l : EcrLayout} {v : BitVec n} (hv : Handshake l v) : ecrFault l v = none := by
  have hperRst : v.getLsbD l.perRst = false := hv.unasked _ (by simp [unaskedFields])
  have hprRst : v.getLsbD l.prRst = false := hv.unasked _ (by simp [unaskedFields])
  simp [ecrFault, hperRst, hprRst, -BitVec.getLsbD_eq_getElem]

/-- Under the default rights a handshake word clears ROCC, sets ProbEn and ProbTrap and leaves EjtagBrk. -/
theorem ecrFields_of_handshake {n : Nat} {l : EcrLayout} {v : BitVec n} (hv : Handshake l v) (e : Ecr) :
    let e' := ecrFields l defaultEcrAccess v e
    e'.rocc = false ∧ e'.probEn = true ∧ e'.probTrap = true ∧ e'.ejtagBrk = e.ejtagBrk := by
  have hrocc : v.getLsbD l.rocc = false := hv.unasked _ (by simp [unaskedFields])
  have hbrk : v.getLsbD l.ejtagBrk = false := hv.unasked _ (by simp [unaskedFields])
  simp [ecrFields, defaultEcrAccess, hrocc, hbrk, hv.probEn, hv.probTrap, -BitVec.getLsbD_eq_getElem]

/-- A handshake word shifted into `ETAP_CONTROL` is written at Update-DR without a fault. -/
theorem exec_etapControl_of_handshake {s : State} {v : ScanWord} (hq : s.tapState = .udr)
    (hs : s.drShift = scanBits s.cfg.ecrLen v) (hv : Handshake s.cfg.ecrLayout (v.setWidth s.cfg.ecrLen)) :
    exec .etapControl s = .next (ecrApply (v.setWidth s.cfg.ecrLen) s) := by
  have hword : ofBits s.cfg.ecrLen s.drShift = v.setWidth s.cfg.ecrLen := by
    rw [hs, scanBits_eq_bitsOf, ofBits_bitsOf]
  simp [exec, execEtapControl, tapInstr, hq, ecrWrite, hword, ecrFault_of_handshake hv]

/-- Settles O11: both words are handshakes, and they differ at PrAcc, which decides whether the access is completed. -/
theorem pollKeepsAndReleaseCompletes : Obligations.PollKeepsAndReleaseCompletes := by
  intro s hq hl
  have fields {v : BitVec s.cfg.ecrLen} (hv : Handshake s.cfg.ecrLayout v) (ha : s.cfg.ecrAccess = defaultEcrAccess) :
      let e := (ecrApply v s).ecr
      e.rocc = false ∧ e.probEn = true ∧ e.probTrap = true ∧ e.ejtagBrk = s.ecr.ejtagBrk := by
    rw [ecrApply_ecr, ha]
    exact ecrFields_of_handshake hv s.ecr
  refine ⟨fun hs => ?poll, fun hs => ?release⟩
  case poll =>
    have hv := pollWord_handshake hl
    exact ⟨_, exec_etapControl_of_handshake hq hs hv, ecrApply_cpu_of_prAcc (pollWord_prAcc hl), ecrApply_ejData _ s,
      fields hv⟩
  case release =>
    have hv := releaseWord_handshake hl
    refine ⟨_, exec_etapControl_of_handshake hq hs hv, ecrApply_ejData _ s, fun ha => ?_, fields hv⟩
    rw [ecrApply_cpu_of_not_prAcc ha (releaseWord_prAcc hl)]
    refine ⟨completeAccess_pending s, fun a hp hk => ?_, fun a hp hk => ?_⟩ <;>
      rw [completeAccess_delivered hp, deliver, hk]

end Sys2Proof.Machine
end

section
/-! SUPPORT. The frame of a TAP instruction (40_tap_fsm.md R151, R153, R156): its three actions, and what each of them leaves unchanged. -/

namespace Sys2Proof.Machine

open Host (Outcome)

/-! ## The three actions -/

/-- What a TAP instruction does at Update-IR besides the latching of its code (40 R156). -/
def irAction : Instr → State → State
  | .swMtap => State.setTapSel .mtap
  | .swEtap => State.setTapSel .etap
  | .etapEjtagboot => State.setEjtagBoot true
  | .etapNormalboot => State.setEjtagBoot false
  | _ => id

/-- What a TAP instruction loads at Capture-DR (40 R151). -/
def drCapture : Instr → State → State
  | .swMtap | .swEtap | .bypass | .etapEjtagboot | .etapNormalboot => captureBypass
  | .mtapIdcode => fun s => captureWord s.cfg.deviceIdcode s
  | .etapIdcode => fun s => captureWord s.cfg.etapIdcode s
  | .etapImpcode => fun s => captureWord s.cfg.impcode s
  | .mtapCommand => captureStatus
  | .etapAddress => captureAddress
  | .etapData => captureData
  | .etapControl => captureControl
  | .etapFastdata => captureFastdata
  | .etapAll => captureAll
  | .mchpStatus | .mchpAssertRst | .mchpDeassertRst | .mchpErase | .mchpFlashEnable | .mchpFlashDisable => id

/-- What a TAP instruction does with its register at Update-DR (40 R153). -/
def drUpdate : Instr → State → Result
  | .mtapCommand => mchpExec
  | .etapControl => fun s => ecrWrite (ofBits s.cfg.ecrLen s.drShift) s
  | .etapData => fun s => .next (s.setEjData (ofBits 32 s.drShift))
  | .etapFastdata => fun s => .next (fastdataUpdate s)
  | .etapAll => allUpdate
  | _ => noUpdate

/-- Where a TAP instruction answers a next state, it is admitted and its meaning is made of its three actions. -/
theorem tapInstr_of_exec {i : Instr} {v : IrCode} {s t : State} (hv : encode s.cfg.codes i = .ir v)
    (h : exec i s = .next t) : tapInstr v (irAction i) (drCapture i) (drUpdate i) s = .next t := by
  cases i with
  | mchpStatus | mchpAssertRst | mchpDeassertRst | mchpErase | mchpFlashEnable | mchpFlashDisable => cases hv
  | bypass | etapIdcode | etapImpcode | etapAddress | etapAll | etapNormalboot =>
    cases hv
    exact (ifAdmitted_next h).2
  | mtapIdcode | swMtap | swEtap | mtapCommand | etapControl | etapEjtagboot =>
    cases hv
    exact h
  | etapData =>
    cases hv
    exact (exec_etapData s).symm.trans h
  | etapFastdata =>
    cases hv
    exact (exec_etapFastdata s).symm.trans h

section

variable {i : Instr} {v : IrCode} {s t : State} (hv : encode s.cfg.codes i = .ir v) (h : exec i s = .next t)
include hv h

theorem exec_uir (hq : s.tapState = .uir) : t = irAction i (s.latchIr v) := by
  simpa [tapInstr, hq, eq_comm] using tapInstr_of_exec hv h

theorem exec_cdr (hq : s.tapState = .cdr) : t = drCapture i s := by
  simpa [tapInstr, hq, eq_comm] using tapInstr_of_exec hv h

theorem exec_udr (hq : s.tapState = .udr) : drUpdate i s = .next t := by
  simpa [tapInstr, hq] using tapInstr_of_exec hv h

end

/-! ## Update-IR -/

theorem irAction_eq (i : Instr) (s : State) :
    irAction i s = { s with tapSel := (irAction i s).tapSel, ejtagBoot := (irAction i s).ejtagBoot } := by
  cases i <;> rfl

theorem irAction_tapSel_of_ne {i : Instr} (s : State) (hm : i ≠ .swMtap) (he : i ≠ .swEtap) :
    (irAction i s).tapSel = s.tapSel := by
  cases i with
  | swMtap => exact absurd rfl hm
  | swEtap => exact absurd rfl he
  | _ => rfl

theorem irAction_ejtagBoot_of_ne {i : Instr} (s : State) (he : i ≠ .etapEjtagboot) (hn : i ≠ .etapNormalboot) :
    (irAction i s).ejtagBoot = s.ejtagBoot := by
  cases i with
  | etapEjtagboot => exact absurd rfl he
  | etapNormalboot => exact absurd rfl hn
  | _ => rfl

/-! ## Capture-DR -/

theorem drCapture_captureOnly (i : Instr) (s : State) : CaptureOnly s (drCapture i s) := by
  cases i <;> exact ⟨_, _, _, rfl⟩

/-- FastData alone latches whether a transfer is pending (42 R240). -/
theorem drCapture_fdCapt {i : Instr} (s : State) (h : i ≠ .etapFastdata) : (drCapture i s).fdCapt = s.fdCapt := by
  cases i with
  | etapFastdata => exact absurd rfl h
  | _ => rfl

/-! ## Update-DR -/

/-- `t` is `s` but for the device's flags, the Control fields, the Data register, the CPU, the flash, the host's session and the number of draws:
all that an Update-DR may write (40 R153). -/
def UpdateOnly (s t : State) : Prop :=
  ∃ m e w c f h k, t = { s with mtap := m, ecr := e, ejData := w, cpu := c, flash := f, host := h, draws := k }

theorem UpdateOnly.refl (s : State) : UpdateOnly s s := ⟨_, _, _, _, _, _, _, rfl⟩

theorem UpdateOnly.trans {s t u : State} (h : UpdateOnly s t) (h' : UpdateOnly t u) : UpdateOnly s u := by
  obtain ⟨_, _, _, _, _, _, _, rfl⟩ := h
  obtain ⟨_, _, _, _, _, _, _, rfl⟩ := h'
  exact ⟨_, _, _, _, _, _, _, rfl⟩

theorem UpdateOnly.of_next {s t u : State} (hu : UpdateOnly s u) (h : (Outcome.next u : Result) = .next t) :
    UpdateOnly s t := by
  cases h
  exact hu

theorem completeAccess_updateOnly (s : State) : UpdateOnly s (completeAccess s) := by
  obtain ⟨-, e⟩ | ⟨a, -, e⟩ := completeAccess_cases s <;> rw [e] <;> exact ⟨_, _, _, _, _, _, _, rfl⟩

theorem ecrApply_updateOnly {n : Nat} (v : BitVec n) (s : State) : UpdateOnly s (ecrApply v s) := by
  obtain ⟨u, hu, e⟩ := ecrApply_cases v s
  have hsu : UpdateOnly s u := by
    obtain rfl | rfl := hu
    · exact .refl u
    · exact completeAccess_updateOnly s
  rw [e]
  exact hsu.trans ⟨_, _, _, _, _, _, _, rfl⟩

theorem ecrWrite_updateOnly {n : Nat} {v : BitVec n} {s t : State} (h : ecrWrite v s = .next t) : UpdateOnly s t := by
  obtain ⟨-, rfl⟩ := ecrWrite_next h
  exact ecrApply_updateOnly v s

theorem fastdataTransfer_updateOnly (w : Word) (s : State) : UpdateOnly s (fastdataTransfer w s) := by
  obtain ⟨-, e⟩ | ⟨u, hu, e⟩ := fastdataTransfer_cases w s <;> rw [e]
  · exact .refl s
  · refine .trans ?_ (completeAccess_updateOnly u)
    obtain rfl | rfl := hu <;> exact ⟨_, _, _, _, _, _, _, rfl⟩

theorem fastdataUpdate_updateOnly (s : State) : UpdateOnly s (fastdataUpdate s) := by
  unfold fastdataUpdate
  split_ifs
  · exact fastdataTransfer_updateOnly _ s
  · exact ⟨_, _, _, _, _, _, _, rfl⟩

theorem allUpdate_updateOnly {s t : State} (h : allUpdate s = .next t) : UpdateOnly s t := by
  unfold allUpdate at h
  dsimp only at h
  split at h
  · cases h
  · have hbump (u : State) : UpdateOnly u u.bump := ⟨_, _, _, _, _, _, _, rfl⟩
    have hdata (w : Word) (u : State) : UpdateOnly u (u.setEjData w) := ⟨_, _, _, _, _, _, _, rfl⟩
    split_ifs at h <;> cases h
    · exact (hbump s).trans ((hdata _ _).trans (ecrApply_updateOnly _ _))
    · exact (hbump s).trans ((ecrApply_updateOnly _ _).trans (hdata _ _))

/-- A command's own update, made after a look at CPS and with its reply voided. -/
theorem updateOnly_of_command {s t u : State} (hu : UpdateOnly s u)
    (h : (Outcome.next (voidReply u) : Result) = .next t) : UpdateOnly s t := by
  refine (hu.trans ?_).of_next h
  obtain e | ⟨-, e⟩ := voidReply_cases u <;> rw [e] <;> exact ⟨_, _, _, _, _, _, _, rfl⟩

theorem lookedAtCps_updateOnly (s : State) : UpdateOnly s s.lookedAtCps := by
  obtain e | e := lookedAtCps_cases s <;> rw [e] <;> exact ⟨_, _, _, _, _, _, _, rfl⟩

theorem releaseReset_updateOnly (s : State) : UpdateOnly s (releaseReset s) := by
  obtain ⟨_, _, _, e, -⟩ := releaseReset_cases s
  rw [e]
  exact ⟨_, _, _, _, _, _, _, rfl⟩

theorem execMchpErase_updateOnly {s t : State} (h : execMchpErase s = .next t) : UpdateOnly s t := by
  unfold execMchpErase at h
  dsimp only at h
  split_ifs at h <;> exact updateOnly_of_command ⟨_, _, _, _, _, _, _, rfl⟩ h

theorem mchpExec_updateOnly {s t : State} (h : mchpExec s = .next t) : UpdateOnly s t := by
  have looked {u : State} (hu : UpdateOnly s.lookedAtCps u) : UpdateOnly s u := (lookedAtCps_updateOnly s).trans hu
  obtain h | h | h | h | h | h := mchpExec_next h
  · exact (UpdateOnly.refl s).of_next h
  · exact updateOnly_of_command (looked ⟨_, _, _, _, _, _, _, rfl⟩) (unlessProtected_next h).2
  · exact updateOnly_of_command (looked (releaseReset_updateOnly _)) (unlessProtected_next h).2
  · exact execMchpErase_updateOnly h
  all_goals
    obtain ⟨-, hrun⟩ := unlessProtected_next h
    split_ifs at hrun
    exact updateOnly_of_command (looked ⟨_, _, _, _, _, _, _, rfl⟩) hrun

theorem drUpdate_updateOnly {i : Instr} {s t : State} (h : drUpdate i s = .next t) : UpdateOnly s t := by
  cases i with
  | mtapCommand => exact mchpExec_updateOnly h
  | etapControl => exact ecrWrite_updateOnly h
  | etapAll => exact allUpdate_updateOnly h
  | etapFastdata => exact (fastdataUpdate_updateOnly s).of_next h
  | etapData => exact UpdateOnly.of_next (u := s.setEjData _) ⟨_, _, _, _, _, _, _, rfl⟩ h
  | _ => exact (UpdateOnly.refl s).of_next h

/-- Only five instructions have a register that Update-DR writes back. -/
theorem drUpdate_of_not_mem {i : Instr} (h : i ∉ [Instr.mtapCommand, .etapControl, .etapData, .etapFastdata, .etapAll]) :
    drUpdate i = noUpdate := by
  cases i with
  | mtapCommand | etapControl | etapData | etapFastdata | etapAll => exact absurd h (by decide)
  | _ => rfl

/-! ## The frame -/

/-- Settles O21, action by action. -/
theorem tapInstructionsChangeOnlyTheirRegisters : Obligations.TapInstructionsChangeOnlyTheirRegisters := by
  intro i s t v hv h
  refine ⟨fun hq => ?atUpdateIr, fun hq => ?atCaptureDr, fun hq => ?atUpdateDr⟩
  case atUpdateIr =>
    rw [exec_uir hv h hq]
    exact ⟨_, _, irAction_eq i _, irAction_tapSel_of_ne _, irAction_ejtagBoot_of_ne _⟩
  case atCaptureDr =>
    rw [exec_cdr hv h hq]
    exact ⟨drCapture_captureOnly i s, drCapture_fdCapt s⟩
  case atUpdateDr =>
    have hupd : drUpdate i s = .next t := exec_udr hv h hq
    refine ⟨fun hi => ?_, ?_⟩
    · rw [drUpdate_of_not_mem hi] at hupd
      exact (Outcome.next.inj hupd).symm
    · obtain ⟨_, _, _, _, _, _, _, rfl⟩ := drUpdate_updateOnly hupd
      exact ⟨rfl, rfl, rfl, rfl, rfl, rfl, rfl, rfl, rfl, rfl, rfl, rfl, rfl⟩

/-- Outside Update-IR a TAP instruction leaves what a capture leaves, or what an update leaves. -/
theorem exec_frame {i : Instr} {v : IrCode} {s t : State} (hv : encode s.cfg.codes i = .ir v) (h : exec i s = .next t) :
    (s.tapState = .uir ∧ t = irAction i (s.latchIr v)) ∨ CaptureOnly s t ∨ UpdateOnly s t := by
  obtain hir | ⟨-, rfl⟩ | ⟨-, hupd⟩ | ⟨-, -, -, rfl⟩ := tapInstr_next (tapInstr_of_exec hv h)
  · exact .inl hir
  · exact .inr (.inl (drCapture_captureOnly i s))
  · exact .inr (.inr (drUpdate_updateOnly hupd))
  · exact .inr (.inr (.refl t))

/-- No TAP instruction raises a mark in a next state. -/
theorem exec_unmarked {i : Instr} {v : IrCode} {s t : State} (hv : encode s.cfg.codes i = .ir v)
    (h : exec i s = .next t) : t.unmarked = s.unmarked := by
  obtain ⟨-, rfl⟩ | ⟨_, _, _, rfl⟩ | ⟨_, _, _, _, _, _, _, rfl⟩ := exec_frame hv h
  · rw [irAction_eq]
    rfl
  · rfl
  · rfl

/-- A code that decodes is the word of its instruction (30 R110). -/
theorem encode_of_decodeIr {c : Codes} {u : Tap} {v : IrCode} {i : Instr} (h : decodeIr c u v = .ok i) :
    encode c i = .ir v :=
  (encode_of_rowOf (rowOf_of_decode (w := .ir v) h)).1

end Sys2Proof.Machine
end

section
/-! SUPPORT. One TCK cycle of the host (40_tap_fsm.md R150), state by state: what the step at a cycle answers. -/

namespace Sys2Proof.Machine

open Host (Outcome)

/-! ## A cycle whose action answers a next state -/

/-- `t` with the TAP in state `q`, and the bit `b` recorded if the cycle reads. -/
def afterCycle (q : TapState) (rd b : Bool) (t : State) : State :=
  { t with tapState := q, host := { t.host with rx := if rd then t.host.rx ++ [b] else t.host.rx } }

section

variable {c : Cycle} {s t : State} (h : tapAction c.tdi s = .next t)
include h

theorem cycle_of_not_read (hrd : c.rd = false) : cycle c s = { t with tapState := s.tapState.next c.tms } := by
  simp [cycle, tck, h, hrd]

/-- In a shift state the bit recorded is the one TDO shows before the action. -/
theorem cycle_of_tdo (hu : t.unmarked = true) {b : Bool} (hb : s.tdo = some b) :
    cycle c s = afterCycle (s.tapState.next c.tms) c.rd b t := by
  cases hrd : c.rd with
  | false => exact cycle_of_not_read h hrd
  | true =>
    obtain ⟨hf, hr⟩ := unmarked_iff.mp hu
    simp [cycle, tck, h, hrd, hb, hf, hr, recordTdo, afterCycle, State.setHost, State.unmarked]

/-- Outside the shift states TDO shows no defined bit, and a reading cycle spends a draw on one. -/
theorem cycle_of_no_tdo (hu : t.unmarked = true) (hb : s.tdo = none) :
    ∃ b k, (c.rd = false → k = t.draws) ∧
      cycle c s = { afterCycle (s.tapState.next c.tms) c.rd b t with draws := k } := by
  cases hrd : c.rd with
  | false => exact ⟨false, t.draws, fun _ => rfl, (cycle_of_not_read h hrd :)⟩
  | true =>
    obtain ⟨hf, hr⟩ := unmarked_iff.mp hu
    refine ⟨(Config.free 1 t.draws).getLsbD 0, t.draws + 1, nofun, ?_⟩
    simp [cycle, tck, h, hrd, hb, hf, hr, recordTdo, afterCycle, State.setHost, State.bump, State.unmarked]

end

/-- A faulting cycle leaves the mark and gives the host no bit (60 R370, R375). -/
theorem cycle_of_fault {c : Cycle} {s : State} {f : Fault} (h : tapAction c.tdi s = .fault f) : cycle c s = s.mark f := by
  simp [cycle, tck, h, State.unmarked]

/-! ## The step at a cycle -/

section

variable {s : State} {c : Cycle} {rest : List HostTask} (h : AboutTo (.cycle c) rest s)
include h

theorem step_of_aboutTo : step s = .next (cycle c (popped rest s)) := by
  obtain ⟨hf, hr, hagenda, htodo⟩ := h
  exact step_cycle (unmarked_iff.mpr ⟨hf, hr⟩) hagenda htodo

theorem unmarked_of_aboutTo : (popped rest s).unmarked = true := by
  obtain ⟨hf, hr, -, -⟩ := h
  exact unmarked_iff.mpr ⟨hf, hr⟩

end

/-! ## The shift states and Capture-IR -/

theorem tapAction_sir (tdi : Bool) {s : State} (h : s.tapState = .sir) :
    tapAction tdi s = .next { s with irShift := shiftIr tdi s.irShift } := by
  simp [tapAction, h]

theorem cycle_sdr {c : Cycle} {s : State} {b : Bool} {bs : List Bool} (hu : s.unmarked = true) (hq : s.tapState = .sdr)
    (hd : s.drShift = b :: bs) :
    cycle c s = afterCycle (if c.tms then .e1d else .sdr) c.rd b { s with drShift := bs ++ [c.tdi] } := by
  have hact : tapAction c.tdi s = .next { s with drShift := bs ++ [c.tdi] } := by
    simpa [hd, shiftDr] using tapAction_sdr c.tdi hq
  have htdo : s.tdo = some b := by simp [State.tdo, hq, hd]
  rw [cycle_of_tdo hact hu htdo, hq]
  cases c.tms <;> rfl

theorem cycle_sir {c : Cycle} {s : State} (hu : s.unmarked = true) (hq : s.tapState = .sir) :
    cycle c s = afterCycle (if c.tms then .e1i else .sir) c.rd s.irShift.b0
      { s with irShift := shiftIr c.tdi s.irShift } := by
  have htdo : s.tdo = some s.irShift.b0 := by simp [State.tdo, hq]
  rw [cycle_of_tdo (tapAction_sir c.tdi hq) hu htdo, hq]
  cases c.tms <;> rfl

/-- Settles O26. -/
theorem shiftCyclesSampleThenShift : Obligations.ShiftCyclesSampleThenShift := by
  intro s c rest h
  have hu := unmarked_of_aboutTo h
  rw [step_of_aboutTo h]
  refine ⟨fun b bs hq hd => ?_, fun hq => ?_⟩
  · rw [cycle_sdr (s := popped rest s) hu hq hd]
    rfl
  · rw [cycle_sir (s := popped rest s) hu hq]
    rfl

/-- Settles O27. -/
theorem captureIrLoadsZeroOne : Obligations.CaptureIrLoadsZeroOne := by
  intro s c rest h hq
  have hact : tapAction c.tdi (popped rest s) = .next (captureIr (popped rest s)) := by simp [tapAction, popped, hq]
  have htdo : (popped rest s).tdo = none := by simp [State.tdo, popped, hq]
  have hu := unmarked_of_aboutTo h
  obtain ⟨b, k, -, e⟩ := cycle_of_no_tdo hact hu htdo
  refine ⟨(captureIr s).irShift, b, k, rfl, rfl, ?_⟩
  have hnext : (popped rest s).tapState.next c.tms = if c.tms then .e1i else .sir := by
    rw [show (popped rest s).tapState = .cir from hq]
    cases c.tms <;> rfl
  rw [step_of_aboutTo h, e, hnext]
  rfl

/-! ## The states without an action -/

/-- The idle, Select, Exit and Pause states have no action (40 R158) and show no bit (40 R150). -/
theorem tapAction_idle (tdi : Bool) {s : State}
    (h : s.tapState ∈ [TapState.rti, .sds, .sis, .e1d, .pdr, .e2d, .e1i, .pir, .e2i]) :
    tapAction tdi s = .next s ∧ s.tdo = none := by
  unfold tapAction State.tdo
  generalize s.tapState = q at h
  cases q with
  | rti | sds | sis | e1d | pdr | e2d | e1i | pir | e2i => exact ⟨rfl, rfl⟩
  | tlr | cdr | sdr | udr | cir | sir | uir => exact absurd h (by decide)

/-- Settles O28. -/
theorem idleAndPauseStatesDoNothing : Obligations.IdleAndPauseStatesDoNothing := by
  intro s c rest h hq
  obtain ⟨hact, htdo⟩ := tapAction_idle c.tdi (s := popped rest s) hq
  obtain ⟨b, k, hk, e⟩ := cycle_of_no_tdo hact (unmarked_of_aboutTo h) htdo
  exact ⟨b, k, hk, (step_of_aboutTo h).trans (congrArg Outcome.next e)⟩

/-! ## The states that run an instruction -/

/-- Where a state fetches a code that decodes, its action is the meaning of the instruction, and TDO shows no bit. -/
theorem tapAction_of_fetched (tdi : Bool) {s : State} {i : Instr} (h : fetched s = some (.ok i)) :
    tapAction tdi s = exec i s ∧ s.tdo = none ∧ ∃ v, encode s.cfg.codes i = .ir v := by
  have runs {v : IrCode} (hv : some (decodeIr s.cfg.codes s.tapSel v) = some (.ok i)) :
      runCode v s = exec i s ∧ ∃ v, encode s.cfg.codes i = .ir v :=
    ⟨runCode_ok (Option.some.inj hv), v, encode_of_decodeIr (Option.some.inj hv)⟩
  cases hq : s.tapState <;> simp only [fetched, hq, reduceCtorEq] at h <;> simpa [tapAction, State.tdo, hq] using runs h

/-- Settles O23: the fetch names the instruction, and its outcome decides what the cycle leaves. -/
theorem stepRunsTheDecodedInstruction : Obligations.StepRunsTheDecodedInstruction := by
  intro s c rest i h hfetch
  obtain ⟨hact, htdo, v, hv⟩ := tapAction_of_fetched c.tdi (s := popped rest s) hfetch
  have hstep := step_of_aboutTo h
  refine ⟨fun t ht => ⟨fun hrd => ?_, fun hrd => ?_⟩, fun f hf => ?_, fun r hr => ?_⟩
  · rw [hstep, cycle_of_not_read (hact.trans ht) hrd]
    rfl
  · have hu : t.unmarked = true := (exec_unmarked hv ht).trans (unmarked_of_aboutTo h)
    obtain ⟨b, k, -, e⟩ := cycle_of_no_tdo (hact.trans ht) hu htdo
    refine ⟨b, k, ?_⟩
    rw [hstep, e, hrd]
    rfl
  · obtain ⟨hnofault, -, -, -⟩ := h
    rw [hstep, cycle_of_fault (hact.trans hf), State.mark, show (popped rest s).faults = [] from hnofault]
  · rw [hstep, cycle_of_refused (hact.trans hr), refuseAction]
    refine ⟨fun hq => ?_, fun hq => ?_⟩
    · rw [if_neg (show (popped rest s).tapState ≠ .uir from hq)]
      rfl
    · rw [if_pos (show (popped rest s).tapState = .uir from hq)]
      rfl

/-! ## Test-Logic-Reset is reached -/

/-- TMS = 1 holds Test-Logic-Reset (40 R141). -/
theorem tlr_of_ones (n : Nat) : (List.replicate n true).foldl TapState.next .tlr = .tlr := by
  induction n with
  | zero => rfl
  | succ n ih => exact ih

/-- Settles O30. -/
theorem fiveOnesReachTestLogicReset : Obligations.FiveOnesReachTestLogicReset := by
  intro q
  have hfive : (List.replicate 5 true).foldl TapState.next q = .tlr := by cases q <;> rfl
  refine ⟨hfive, fun n => ?_⟩
  rw [List.replicate_add, List.foldl_append, hfive, tlr_of_ones]

end Sys2Proof.Machine
end

section
/-! SUPPORT. The selected TAP (40_tap_fsm.md R157): what each part of a step does to `tapSel`. -/

namespace Sys2Proof.Machine

/-- From `s` to `t` the selected TAP stays, or `s` is in Test-Logic-Reset, or at the Update-IR of the switch to it. -/
def SelStep (s t : State) : Prop :=
  t.tapSel = s.tapSel ∨ s.tapState = .tlr ∨
    (s.tapState = .uir ∧ ((decodeIr s.cfg.codes s.tapSel s.irShift.code = .ok .swMtap ∧ t.tapSel = .mtap) ∨
      (decodeIr s.cfg.codes s.tapSel s.irShift.code = .ok .swEtap ∧ t.tapSel = .etap)))

theorem tapSel_of_scanPath {s t : State} (h : t.scanPath = s.scanPath) : t.tapSel = s.tapSel :=
  congrArg ScanPath.tapSel h

/-- A decoded instruction changes the selected TAP at Update-IR only. -/
theorem exec_tapSel {v : IrCode} {i : Instr} {s t : State} (hv : encode s.cfg.codes i = .ir v) (hq : s.tapState ≠ .uir)
    (h : exec i s = .next t) : t.tapSel = s.tapSel := by
  obtain ⟨hu, -⟩ | ⟨_, _, _, rfl⟩ | ⟨_, _, _, _, _, _, _, rfl⟩ := exec_frame hv h
  · exact absurd hu hq
  · rfl
  · rfl

theorem tapAction_selStep {tdi : Bool} {s t : State} (h : tapAction tdi s = .next t) : SelStep s t := by
  cases hq : s.tapState <;> simp only [tapAction, hq] at h
  case tlr => exact .inr (.inl hq)
  case uir =>
    obtain ⟨i, hi, hx⟩ := runCode_next h
    rw [exec_uir (encode_of_decodeIr hi) hx hq]
    by_cases hm : i = .swMtap
    · subst hm
      exact .inr (.inr ⟨hq, .inl ⟨hi, rfl⟩⟩)
    · by_cases he : i = .swEtap
      · subst he
        exact .inr (.inr ⟨hq, .inr ⟨hi, rfl⟩⟩)
      · exact .inl (irAction_tapSel_of_ne _ hm he)
  case cdr | udr =>
    obtain ⟨i, hi, hx⟩ := runCode_next h
    exact .inl (exec_tapSel (encode_of_decodeIr hi) (by simp [hq]) hx)
  all_goals
    cases h
    exact .inl rfl

theorem tck_selStep (tms tdi : Bool) (s : State) : SelStep s (tck tms tdi s) := by
  obtain ⟨t, ht, e⟩ | ⟨f, -, e⟩ | ⟨r, -, e | e⟩ := tck_cases tms tdi s <;> rw [e]
  · exact (tapAction_selStep ht :)
  all_goals exact .inl rfl

theorem HostMove.selStep {s t : State} (h : HostMove s t) : SelStep s t := by
  obtain h | ⟨tms, tdi, hst, h⟩ := h
  · exact .inl (tapSel_of_scanPath h.scanPath)
  · have htck : SelStep s (tck tms tdi (s.setHost hst)) := tck_selStep tms tdi (s.setHost hst)
    rwa [SelStep, tapSel_of_scanPath h.scanPath]

theorem runTurn_selStep {turn : Turn} (s : State) (hpow : turn ≠ .powerOn) : SelStep s (runTurn turn s) := by
  cases turn with
  | host => exact (hostTurn_move s).selStep
  | cpu m => exact .inl (tapSel_of_scanPath (cpuTurn_scanPath m s))
  | flash m => exact .inl (tapSel_of_scanPath (flashTurn_scanPath m s))
  | hostGarbled => exact (garbledTurn_move s).selStep
  | transportFail => exact (transportFails_move s).selStep
  | powerOn => exact absurd rfl hpow

theorem nextTurn_selStep (s : State) : SelStep s (nextTurn s) ∨ ∃ rest, s.agenda = .powerOn :: rest := by
  unfold nextTurn
  split
  · exact .inl (hostTurn_move s).selStep
  · next turn rest hagenda =>
    by_cases hpow : turn = .powerOn
    · exact .inr ⟨rest, hpow ▸ hagenda⟩
    · exact .inl (runTurn_selStep { s with agenda := rest } hpow)

/-- Settles O56. -/
theorem tapSelChangesOnlyBySwitchOrReset : Obligations.TapSelChangesOnlyBySwitchOrReset := by
  intro s t h hne
  obtain ⟨-, -, rfl⟩ := step_next h
  obtain (hkept | htlr | hswitch) | hpow := nextTurn_selStep s
  · exact absurd hkept hne
  · exact .inl htlr
  · exact .inr (.inr hswitch)
  · exact .inr (.inl hpow)

end Sys2Proof.Machine
end

section
/-! SUPPORT. Scans from Run-Test/Idle (40_tap_fsm.md R161, R162), phase by phase: the lead to the Capture state, the capture, the data cycles, and the
update on the way back. -/

namespace Sys2Proof.Machine

/-! ## Runs of cycles in an unmarked state -/

theorem cycles_cons_of_unmarked {c : Cycle} {cs : List Cycle} {s t : State} (h : cycle c s = t) (hu : t.unmarked = true) :
    cycles (c :: cs) s = cycles cs t := by
  simp [cycles, h, hu]

theorem cycles_append_of_unmarked {a b : List Cycle} {s t : State} (hs : s.unmarked = true) (h : cycles a s = t)
    (hu : t.unmarked = true) : cycles (a ++ b) s = cycles b t := by
  rw [cycles_append a b s hs, h, if_pos hu]

/-- One cycle is run, whether it leaves a mark or not. -/
theorem cycles_singleton (c : Cycle) (s : State) : cycles [c] s = cycle c s := by
  simp [cycles]

/-- A quiet cycle in a state without an action, at the head of a run. -/
theorem cycles_quiet {s : State} (q : TapState) (tms : Bool) (cs : List Cycle) (hu : s.unmarked = true)
    (hq : s.tapState = q) (h : q ∈ [TapState.rti, .sds, .sis, .e1d, .pdr, .e2d, .e1i, .pir, .e2i]) :
    cycles (quiet tms :: cs) s = cycles cs { s with tapState := q.next tms } := by
  subst hq
  exact cycles_cons_of_unmarked (cycle_quiet tms h) hu

/-! ## The data cycles -/

/-- `s` with the TAP in state `q` and the bits passed through its shift register: what the register held comes out first, then the bits
themselves (40 R162), and a reading scan records what comes out. -/
def passBits (q : TapState) (rd : Bool) (bits : List Bool) (s : State) : State :=
  { s with
    tapState := q
    drShift := (s.drShift ++ bits).drop bits.length
    host := { s.host with rx := if rd then s.host.rx ++ (s.drShift ++ bits).take bits.length else s.host.rx } }

theorem cycles_dataCycles_sdr (rd b : Bool) (bs : List Bool) {s : State} (hu : s.unmarked = true)
    (hq : s.tapState = .sdr) (hd : s.drShift ≠ []) :
    cycles (dataCycles rd (b :: bs)) s = passBits .e1d rd (b :: bs) s := by
  induction bs generalizing b s with
  | nil =>
    obtain ⟨d, ds, hds⟩ := List.exists_cons_of_ne_nil hd
    rw [dataCycles, cycles_singleton, cycle_sdr hu hq hds]
    simp [afterCycle, passBits, hds]
  | cons b' bs ih =>
    obtain ⟨d, ds, hds⟩ := List.exists_cons_of_ne_nil hd
    let shifted : State := afterCycle .sdr rd d { s with drShift := ds ++ [b] }
    calc cycles (dataCycles rd (b :: b' :: bs)) s
        = cycles (dataCycles rd (b' :: bs)) shifted := cycles_cons_of_unmarked (cycle_sdr hu hq hds) hu
      _ = passBits .e1d rd (b' :: bs) shifted := ih b' hu rfl (by simp [shifted, afterCycle])
      _ = passBits .e1d rd (b :: b' :: bs) s := by cases rd <;> simp [shifted, afterCycle, passBits, hds]

/-- The data cycles of an IR scan shift their bits into the instruction shift register. -/
theorem cycles_dataCycles_sir (b : Bool) (bs : List Bool) {s : State} (hu : s.unmarked = true) (hq : s.tapState = .sir) :
    cycles (dataCycles false (b :: bs)) s =
      { s with tapState := .e1i, irShift := (b :: bs).foldl (fun v b => shiftIr b v) s.irShift } := by
  induction bs generalizing b s with
  | nil =>
    rw [dataCycles, cycles_singleton, cycle_sir hu hq]
    rfl
  | cons b' bs ih =>
    let shifted : State := { s with tapState := .sir, irShift := shiftIr b s.irShift }
    calc cycles (dataCycles false (b :: b' :: bs)) s
        = cycles (dataCycles false (b' :: bs)) shifted := cycles_cons_of_unmarked (cycle_sir hu hq) hu
      _ = _ := ih b' hu rfl

/-- Five shifts put a code into the instruction shift register, whatever it held. -/
theorem shiftIr_bitsOf (c : IrCode) (v : IrShift) : (bitsOf c).foldl (fun v b => shiftIr b v) v = .ofCode c := rfl

/-! ## The cycles that run an instruction -/

/-- A quiet cycle in Capture-DR or Update-DR runs the current instruction and moves on. -/
theorem cycle_quiet_of_ir {i : Instr} {s t : State} (tms : Bool) (hq : s.tapState = .cdr ∨ s.tapState = .udr)
    (hi : decodeIr s.cfg.codes s.tapSel s.ir = .ok i) (h : exec i s = .next t) :
    cycle (quiet tms) s = { t with tapState := s.tapState.next tms } := by
  refine cycle_of_not_read ?_ rfl
  obtain hq | hq := hq <;> simp [tapAction, hq, runCode_ok hi, h]

/-- A quiet cycle in Update-IR runs the instruction of the code shifted in and moves on. -/
theorem cycle_quiet_uir {i : Instr} {s t : State} (tms : Bool) (hq : s.tapState = .uir)
    (hi : decodeIr s.cfg.codes s.tapSel s.irShift.code = .ok i) (h : exec i s = .next t) :
    cycle (quiet tms) s = { t with tapState := s.tapState.next tms } :=
  cycle_of_not_read (by simp [tapAction, hq, runCode_ok hi, h]) rfl

theorem cycle_quiet_cir {s : State} (tms : Bool) (hq : s.tapState = .cir) :
    cycle (quiet tms) s = { captureIr s with tapState := s.tapState.next tms } :=
  cycle_of_not_read (by simp [tapAction, hq]) rfl

/-! ## IR scans -/

/-- An IR scan takes the TAP to Update-IR with its code in the instruction shift register; its last cycle leaves Update-IR. -/
theorem cycles_irScan (c : IrCode) {s : State} (hu : s.unmarked = true) (hq : s.tapState = .rti) :
    cycles (Scan.cycles (.ir c)) s =
      cycle (quiet false) { s with tapState := .uir, irShift := .ofCode c, draws := s.draws + 1 } := by
  let captured : State := { captureIr s with tapState := .sir }
  have hlead : cycles [quiet true, quiet true, quiet false, quiet false] s = captured :=
    calc cycles [quiet true, quiet true, quiet false, quiet false] s
        = cycles [quiet true, quiet false, quiet false] { s with tapState := .sds } :=
          cycles_quiet .rti true _ hu hq (by decide)
      _ = cycles [quiet false, quiet false] { s with tapState := .sis } := cycles_quiet .sds true _ hu rfl (by decide)
      _ = cycles [quiet false] { s with tapState := .cir } := cycles_quiet .sis false _ hu rfl (by decide)
      _ = cycle (quiet false) { s with tapState := .cir } := cycles_singleton _ _
      _ = captured := cycle_quiet_cir false rfl
  have hdata : cycles (dataCycles false (bitsOf c)) captured =
      { captured with tapState := .e1i, irShift := .ofCode c } := cycles_dataCycles_sir _ _ hu rfl
  calc cycles (Scan.cycles (.ir c)) s
      = cycles (dataCycles false (bitsOf c) ++ [quiet true, quiet false]) captured :=
        cycles_append_of_unmarked hu hlead hu
    _ = cycles [quiet true, quiet false] { captured with tapState := .e1i, irShift := .ofCode c } :=
        cycles_append_of_unmarked hu hdata hu
    _ = cycles [quiet false] { captured with tapState := .uir, irShift := .ofCode c } :=
        cycles_quiet .e1i true _ hu rfl (by decide)
    _ = cycle (quiet false) { s with tapState := .uir, irShift := .ofCode c, draws := s.draws + 1 } :=
        cycles_singleton _ _

/-- Settles O31: the scan's last cycle is the Update-IR. -/
theorem irScanIsTheUpdateOfItsCode : Obligations.IrScanIsTheUpdateOfItsCode := by
  intro s t c i hu hq hi h
  rw [cycles_irScan c hu hq]
  exact cycle_quiet_uir false rfl (by simpa using hi) h

/-! ## DR scans -/

/-- A DR scan whose capture answers `p` takes the TAP to Update-DR with its bits passed through what was captured; its last cycle leaves
Update-DR. -/
theorem cycles_drScan (rd : Bool) {bits : List Bool} (hb : bits ≠ []) {i : Instr} {s p : State}
    (hu : s.unmarked = true) (hq : s.tapState = .rti) (hi : decodeIr s.cfg.codes s.tapSel s.ir = .ok i)
    (hcap : exec i { s with tapState := .cdr } = .next p) (hp : p.unmarked = true) (hd : p.drShift ≠ []) :
    cycles (Scan.cycles (.dr bits rd)) s = cycle (quiet false) (passBits .udr rd bits p) := by
  obtain ⟨b, bs, rfl⟩ := List.exists_cons_of_ne_nil hb
  let captured : State := { p with tapState := .sdr }
  have hlead : cycles [quiet true, quiet false, quiet false] s = captured :=
    calc cycles [quiet true, quiet false, quiet false] s
        = cycles [quiet false, quiet false] { s with tapState := .sds } := cycles_quiet .rti true _ hu hq (by decide)
      _ = cycles [quiet false] { s with tapState := .cdr } := cycles_quiet .sds false _ hu rfl (by decide)
      _ = cycle (quiet false) { s with tapState := .cdr } := cycles_singleton _ _
      _ = captured := cycle_quiet_of_ir false (.inl rfl) hi hcap
  have hdata : cycles (dataCycles rd (b :: bs)) captured = passBits .e1d rd (b :: bs) p :=
    cycles_dataCycles_sdr rd b bs (s := captured) hp rfl hd
  calc cycles (Scan.cycles (.dr (b :: bs) rd)) s
      = cycles ([quiet true, quiet false, quiet false] ++ (dataCycles rd (b :: bs) ++ [quiet true, quiet false])) s := by
        rw [Scan.cycles, dataPhase, List.append_assoc]
    _ = cycles (dataCycles rd (b :: bs) ++ [quiet true, quiet false]) captured := cycles_append_of_unmarked hu hlead hp
    _ = cycles [quiet true, quiet false] (passBits .e1d rd (b :: bs) p) := cycles_append_of_unmarked hp hdata hp
    _ = cycles [quiet false] (passBits .udr rd (b :: bs) p) := cycles_quiet .e1d true _ hp rfl (by decide)
    _ = cycle (quiet false) (passBits .udr rd (b :: bs) p) := cycles_singleton _ _

/-- Settles O32: the capture leaves the instruction selected, so the scan's last cycle is its Update-DR. -/
theorem drScanIsCaptureShiftUpdate : Obligations.DrScanIsCaptureShiftUpdate := by
  intro s p t bits rd i hu hq hi hb hcap hd hupd
  have hv : encode s.cfg.codes i = .ir s.ir := encode_of_decodeIr hi
  have hp : p.unmarked = true := (exec_unmarked (s := { s with tapState := .cdr }) hv hcap).trans hu
  have hsel : decodeIr p.cfg.codes p.tapSel p.ir = .ok i := by
    obtain ⟨_, _, _, e⟩ := drCapture_captureOnly i { s with tapState := .cdr }
    rw [exec_cdr (s := { s with tapState := .cdr }) hv hcap rfl, e]
    exact hi
  rw [cycles_drScan rd hb hu hq hi hcap hp hd]
  exact cycle_quiet_of_ir (s := passBits .udr rd bits p) false (.inr rfl) hsel hupd

end Sys2Proof.Machine
end

section
/-! SUPPORT. The MTAP instructions (41_mtap.md R180 to R184, R197): the meaning of a TAP instruction in each state in which it acts, and the command
that the command register holds. -/

namespace Sys2Proof.Machine

/-! ## The acting states -/

section

variable {code : IrCode} {atIr cap : State → State} {upd : State → Result} {s : State}

theorem tapInstr_of_uir (hq : s.tapState = .uir) : tapInstr code atIr cap upd s = .next (atIr (s.latchIr code)) := by
  simp [tapInstr, hq]

theorem tapInstr_of_cdr (hq : s.tapState = .cdr) : tapInstr code atIr cap upd s = .next (cap s) := by
  simp [tapInstr, hq]

theorem tapInstr_of_udr (hq : s.tapState = .udr) : tapInstr code atIr cap upd s = upd s := by simp [tapInstr, hq]

theorem ifAdmitted_of_true {run : State → Result} (h : s.cfg.admitGkForms = true) : ifAdmitted code run s = run s :=
  if_pos h

theorem ifAdmitted_of_false {run : State → Result} (h : s.cfg.admitGkForms = false) :
    ifAdmitted code run s = .refused (.unmodelledIr s.tapSel code) := by
  simp [ifAdmitted, h]

end

/-! ## The command register -/

/-- A command that decodes is executed: no row of 30 R111 holds a TAP instruction. -/
theorem mchpExec_of_ok {s : State} {i : Instr} (h : decodeMchp s.cfg.codes (ofBits 8 s.drShift) = .ok i) :
    mchpExec s = exec i s := by
  unfold mchpExec
  dsimp only
  rw [h]
  cases i with
  | mchpStatus | mchpAssertRst | mchpDeassertRst | mchpErase | mchpFlashEnable | mchpFlashDisable => rfl
  | _ => exact absurd (decodeMchp_mem h) (by simp [mchpRows])

theorem mchpExec_of_error {s : State} {e : DecodeError}
    (h : decodeMchp s.cfg.codes (ofBits 8 s.drShift) = .error e) :
    mchpExec s = .fault (.undefinedMchpCmd (ofBits 8 s.drShift)) := by
  unfold mchpExec
  dsimp only
  rw [h]

/-- STATUS is the first row of 30 R111, so its code decodes to it under every table. -/
theorem decodeMchp_mchpStatus (c : Codes) : decodeMchp c c.mchpStatus = .ok .mchpStatus := by
  simp [decodeMchp, mchpRows, lookup]

theorem exec_mtapCommand_of_udr {s : State} (hq : s.tapState = .udr) : exec .mtapCommand s = mchpExec s :=
  tapInstr_of_udr hq

/-! ## The statements -/

/-- Settles O1. -/
theorem switchInstructionsSelectTheirTap : Obligations.SwitchInstructionsSelectTheirTap :=
  ⟨fun t => ⟨Laws.TableRoundTrip.swMtap t rfl, Laws.TableRoundTrip.swEtap t rfl⟩, fun _ =>
    ⟨fun hq => ⟨tapInstr_of_uir hq, tapInstr_of_uir hq⟩,
      fun hq => ⟨tapInstr_of_cdr hq, tapInstr_of_cdr hq⟩,
      fun hq => ⟨tapInstr_of_udr hq, tapInstr_of_udr hq⟩⟩⟩

/-- Settles O2. -/
theorem mtapIdcodeReadsTheDeviceIdcode : Obligations.MtapIdcodeReadsTheDeviceIdcode :=
  ⟨Laws.TableRoundTrip.mtapIdcode .mtap rfl, fun _ => ⟨tapInstr_of_uir, tapInstr_of_cdr, tapInstr_of_udr⟩⟩

/-- Settles O4. -/
theorem bypassCapturesZero : Obligations.BypassCapturesZero :=
  ⟨fun t => Laws.TableRoundTrip.bypass t rfl, fun _ =>
    ⟨fun ha =>
      ⟨fun hq => (ifAdmitted_of_true ha).trans (tapInstr_of_uir hq),
        fun hq => (ifAdmitted_of_true ha).trans (tapInstr_of_cdr hq),
        fun hq => (ifAdmitted_of_true ha).trans (tapInstr_of_udr hq)⟩,
      ifAdmitted_of_false⟩⟩

/-- Settles O3: the command register at Update-DR, by what its 8 bits decode to. -/
theorem mtapCommandRunsTheShiftedCommand : Obligations.MtapCommandRunsTheShiftedCommand :=
  ⟨Laws.TableRoundTrip.mtapCommand .mtap rfl, fun s =>
    ⟨tapInstr_of_uir,
      fun hq => ⟨Config.free 8 s.draws, s.draws + 1, tapInstr_of_cdr hq⟩,
      fun hq =>
        ⟨fun _ hi => (exec_mtapCommand_of_udr hq).trans (mchpExec_of_ok hi),
          fun _ he => (exec_mtapCommand_of_udr hq).trans (mchpExec_of_error he)⟩⟩⟩

/-- Settles O20: the code of STATUS decodes to STATUS, which answers its state. -/
theorem statusCommandChangesNothing : Obligations.StatusCommandChangesNothing := by
  refine ⟨fun _ => rfl, fun s hq hstatus => ?_⟩
  have hdecode : decodeMchp s.cfg.codes (ofBits 8 s.drShift) = .ok .mchpStatus := by
    rw [hstatus, decodeMchp_mchpStatus]
  calc exec .mtapCommand s
      = mchpExec s := exec_mtapCommand_of_udr hq
    _ = exec .mchpStatus s := mchpExec_of_ok hdecode
    _ = .next s := rfl

end Sys2Proof.Machine
end

section
/-! SUPPORT. The Microchip commands (41_mtap.md R190 to R199): the look at CPS, the reply, and what each command makes of the device. -/

namespace Sys2Proof.Machine

open Host (Outcome)

/-! ## The reply -/

namespace ReplyVoided

variable {s t u : State}

theorem refl (s : State) : ReplyVoided s s := ⟨_, _, rfl, fun _ => rfl, rfl⟩

theorem symm (h : ReplyVoided s t) : ReplyVoided t s := by
  obtain ⟨bits, k, rfl, hkept, hlen⟩ := h
  exact ⟨s.host.rx, s.draws, rfl, fun hn => (hkept (hlen ▸ hn)).symm, hlen.symm⟩

theorem trans (h : ReplyVoided s t) (h' : ReplyVoided t u) : ReplyVoided s u := by
  obtain ⟨bits, k, rfl, hkept, hlen⟩ := h
  obtain ⟨bits', k', rfl, hkept', hlen'⟩ := h'
  exact ⟨bits', k', rfl, fun hn => (hkept' (hlen.symm ▸ hn)).trans (hkept hn), hlen'.trans hlen⟩

theorem of_draws (s : State) (k : Nat) : ReplyVoided s { s with draws := k } := ⟨_, _, rfl, fun _ => rfl, rfl⟩

theorem flash (h : ReplyVoided s t) : t.flash = s.flash := by
  obtain ⟨_, _, rfl, -⟩ := h
  rfl

end ReplyVoided

theorem voidReply_replyVoided (s : State) : ReplyVoided s (voidReply s) := by
  obtain e | ⟨h8, e⟩ := voidReply_cases s <;> rw [e]
  · exact .refl s
  · exact ⟨_, _, rfl, fun hn => absurd h8 hn, by rw [bitsOf_length, h8]⟩

theorem lookedAtCps_replyVoided (s : State) : ReplyVoided s s.lookedAtCps := by
  obtain e | e := lookedAtCps_cases s <;> rw [e]
  · exact .refl s
  · exact .of_draws s _

/-! ## The look at CPS -/

section

variable {op : MchpOp} {run : State → Result} {s : State}

theorem unlessProtected_of_configured (h : Configured s) : unlessProtected op run s = run s := by
  obtain ⟨hknown, hcps⟩ := h
  simp [unlessProtected, State.cpsNow, State.lookedAtCps, hknown, hcps]

theorem unlessProtected_of_protected (hknown : s.mtap.cpsKnown = true) (hcps : s.mtap.cps = false) :
    unlessProtected op run s = .fault (.protectedCmd op) := by
  simp [unlessProtected, State.cpsNow, hknown, hcps]

/-- Before the configuration step the look is a draw (41 R205). -/
theorem unlessProtected_of_unknown (hknown : s.mtap.cpsKnown = false) :
    unlessProtected op run s = .fault (.protectedCmd op) ∨ unlessProtected op run s = run s.bump := by
  unfold unlessProtected
  split_ifs
  · exact .inr (by simp [State.lookedAtCps, hknown])
  · exact .inl rfl

end

/-! ## The release of the device reset -/

section

variable {s : State}

theorem releaseReset_of_not_asserted (hd : s.mtap.devRst = false) : releaseReset s = s := by simp [releaseReset, hd]

/-- With EJTAGBOOT armed the CPU leaves reset in debug mode (60 R381). -/
theorem releaseReset_of_ejtagBoot (hd : s.mtap.devRst = true) (hb : s.ejtagBoot = true) :
    releaseReset s = { s with
      mtap := { s.mtap with devRst := false }
      cpu := { s.cpu with mode := .debug, pc := s.cfg.dmsegVector, atVector := true }
      ecr := { s.ecr with probEn := true, probTrap := true, ejtagBrk := false } } := by
  simp [releaseReset, cpuResetExit, debugExceptionEntry, hd, hb, State.setCpu, State.setEcr, State.setMtap]

theorem releaseReset_of_no_request (hd : s.mtap.devRst = true) (hb : s.ejtagBoot = false)
    (hk : s.ecr.ejtagBrk = false) :
    releaseReset s = { s with
      mtap := { s.mtap with devRst := false }
      cpu := { s.cpu with mode := .run, pc := s.cfg.resetVector, atVector := false } } := by
  simp [releaseReset, cpuResetExit, hd, hb, hk, State.setCpu, State.setMtap]

/-- A request left pending is taken at the reset exit (60 R383). -/
theorem releaseReset_of_request (hd : s.mtap.devRst = true) (hb : s.ejtagBoot = false)
    (hk : s.ecr.ejtagBrk = true) :
    releaseReset s = { s with
      mtap := { s.mtap with devRst := false }
      cpu := { s.cpu with
        mode := .debug
        pc := if s.ecr.probTrap then s.cfg.dmsegVector else s.cfg.targetVector
        atVector := s.ecr.probTrap }
      ecr := { s.ecr with ejtagBrk := false } } := by
  simp [releaseReset, cpuResetExit, debugExceptionEntry, hd, hb, hk, State.setCpu, State.setEcr, State.setMtap]

end

/-- The four ways of the release (41 R192). -/
theorem release_ways (s : State) :
    s.mtap.devRst = false ∨ (s.mtap.devRst = true ∧ s.ejtagBoot = true) ∨
      (s.mtap.devRst = true ∧ s.ejtagBoot = false ∧ s.ecr.ejtagBrk = false) ∨
      (s.mtap.devRst = true ∧ s.ejtagBoot = false ∧ s.ecr.ejtagBrk = true) := by
  cases s.mtap.devRst with
  | false => exact .inl rfl
  | true =>
    cases s.ejtagBoot with
    | true => exact .inr (.inl ⟨rfl, rfl⟩)
    | false =>
      cases s.ecr.ejtagBrk with
      | false => exact .inr (.inr (.inl ⟨rfl, rfl, rfl⟩))
      | true => exact .inr (.inr (.inr ⟨rfl, rfl, rfl⟩))

/-! ## The meanings -/

/-- What the flash commands do once CPS admits them (41 R194, R195, R207). -/
def switchFaen (b : Bool) (onMz : Fault) (s : State) : Result :=
  if s.cfg.family = .mz then .fault onMz else .next (voidReply (s.setMtap { s.mtap with faen := b }))

theorem switchFaen_of_mz (b : Bool) (onMz : Fault) {s : State} (h : s.cfg.family = .mz) :
    switchFaen b onMz s = .fault onMz :=
  if_pos h

theorem switchFaen_of_ne_mz (b : Bool) (onMz : Fault) {s : State} (h : s.cfg.family ≠ .mz) :
    switchFaen b onMz s = .next (voidReply (s.setMtap { s.mtap with faen := b })) :=
  if_neg h

theorem exec_mchpAssertRst (s : State) : exec .mchpAssertRst s =
    unlessProtected .assertRst (fun s => .next (voidReply (assertReset s))) s := rfl

theorem exec_mchpDeassertRst (s : State) : exec .mchpDeassertRst s =
    unlessProtected .deassertRst (fun s => .next (voidReply (releaseReset s))) s := rfl

theorem exec_mchpFlashEnable (s : State) : exec .mchpFlashEnable s =
    unlessProtected .flashEnable (switchFaen true .mzFlashEnable) s := rfl

theorem exec_mchpFlashDisable (s : State) : exec .mchpFlashDisable s =
    unlessProtected .flashDisable (switchFaen false .mzFlashDisable) s := rfl

theorem exec_mchpErase_of_idle {s : State} (h : s.flash.eraseRunning = false) :
    exec .mchpErase s = .next (voidReply (startErase s)) := by
  simp [exec, execMchpErase, h]

/-- A second start leaves the flash as it is. -/
theorem startErase_of_running {s : State} (h : s.flash.eraseRunning = true) :
    startErase s = s.setMtap { s.mtap with fcBusy := true, cfgRdy := false } := by
  have hflash : { s.flash with eraseRunning := true } = s.flash := by rw [← h]
  simp [startErase, hflash, State.setFlash]

/-- The draw of a second ERASE decides what becomes of CFGRDY, and nothing else (41 R193, log 24). -/
theorem exec_mchpErase_of_running {s : State} (h : s.flash.eraseRunning = true) :
    ∃ r : Bool, exec .mchpErase s =
      .next (voidReply (s.bump.setMtap { s.mtap with fcBusy := true, cfgRdy := s.mtap.cfgRdy && r })) := by
  by_cases hdraw : (Config.free 1 s.draws).getLsbD 0 = true
  · have hrestart : exec .mchpErase s = .next (voidReply (startErase s.bump)) := (if_pos h).trans (if_pos hdraw)
    exact ⟨false, by rw [hrestart, startErase_of_running (s := s.bump) h, Bool.and_false, State.bump_mtap]⟩
  · have hkept : exec .mchpErase s = .next (voidReply (s.bump.setMtap { s.mtap with fcBusy := true })) :=
      (if_pos h).trans (if_neg hdraw)
    exact ⟨true, by rw [hkept, Bool.and_true]⟩

/-! ## Configured devices -/

theorem exec_mchpAssertRst_of_configured {s : State} (h : Configured s) :
    exec .mchpAssertRst s = .next (voidReply (assertReset s)) :=
  (exec_mchpAssertRst s).trans (unlessProtected_of_configured h)

theorem exec_mchpDeassertRst_of_configured {s : State} (h : Configured s) :
    exec .mchpDeassertRst s = .next (voidReply (releaseReset s)) :=
  (exec_mchpDeassertRst s).trans (unlessProtected_of_configured h)

theorem exec_mchpFlashEnable_of_configured {s : State} (h : Configured s) :
    exec .mchpFlashEnable s = switchFaen true .mzFlashEnable s :=
  (exec_mchpFlashEnable s).trans (unlessProtected_of_configured h)

theorem exec_mchpFlashDisable_of_configured {s : State} (h : Configured s) :
    exec .mchpFlashDisable s = switchFaen false .mzFlashDisable s :=
  (exec_mchpFlashDisable s).trans (unlessProtected_of_configured h)

/-- Settles O15. -/
theorem assertResetHoldsTheCpu : Obligations.AssertResetHoldsTheCpu :=
  fun _ hs => ⟨_, exec_mchpAssertRst_of_configured hs, voidReply_replyVoided _⟩

/-- Settles O16, way by way of the release. -/
theorem deassertResetLeavesReset : Obligations.DeassertResetLeavesReset := by
  intro s hs
  have releases {u : State} (hu : releaseReset s = u) : ∃ t, exec .mchpDeassertRst s = .next t ∧ ReplyVoided u t :=
    ⟨_, exec_mchpDeassertRst_of_configured hs, hu ▸ voidReply_replyVoided _⟩
  exact ⟨fun hd => releases (releaseReset_of_not_asserted hd),
    fun hd hb => releases (releaseReset_of_ejtagBoot hd hb),
    fun hd hb hk => releases (releaseReset_of_no_request hd hb hk),
    fun hd hb hk => releases (releaseReset_of_request hd hb hk)⟩

/-- Settles O17. -/
theorem eraseStartsWhateverCps : Obligations.EraseStartsWhateverCps := by
  refine fun s => ⟨fun hidle => ⟨_, exec_mchpErase_of_idle hidle, voidReply_replyVoided _⟩, fun hrun => ?_⟩
  obtain ⟨r, hr⟩ := exec_mchpErase_of_running hrun
  have hreply := voidReply_replyVoided (s.bump.setMtap { s.mtap with fcBusy := true, cfgRdy := s.mtap.cfgRdy && r })
  exact ⟨_, r, hr, hreply.flash, (ReplyVoided.of_draws _ _).trans hreply⟩

/-- Settles O18. -/
theorem flashCommandsSwitchFaen : Obligations.FlashCommandsSwitchFaen := by
  refine fun s hs => ⟨fun hne => ⟨⟨_, ?_, voidReply_replyVoided _⟩, ⟨_, ?_, voidReply_replyVoided _⟩⟩,
    fun hmz => ⟨?_, ?_⟩⟩
  · exact (exec_mchpFlashEnable_of_configured hs).trans (switchFaen_of_ne_mz _ _ hne)
  · exact (exec_mchpFlashDisable_of_configured hs).trans (switchFaen_of_ne_mz _ _ hne)
  · exact (exec_mchpFlashEnable_of_configured hs).trans (switchFaen_of_mz _ _ hmz)
  · exact (exec_mchpFlashDisable_of_configured hs).trans (switchFaen_of_mz _ _ hmz)

/-! ## The frame -/

/-- What a command may change of `s`: the statement of O22 for one pair of states. -/
def CommandOnly (s t : State) : Prop :=
  ∃ (m : Mtap) (e : Ecr) (c : Cpu) (f : Flash) (bits : List Bool) (k : Nat),
    t = { s with mtap := m, ecr := e, cpu := c, flash := f, host := { s.host with rx := bits }, draws := k } ∧
    c.delivered = s.cpu.delivered ∧ (c.pending = s.cpu.pending ∨ c.pending = none) ∧ f.contents = s.flash.contents ∧
    m.nvmErr = s.mtap.nvmErr ∧ m.cps = s.mtap.cps ∧ m.cpsKnown = s.mtap.cpsKnown

theorem CommandOnly.trans {s t u : State} (h : CommandOnly s t) (h' : CommandOnly t u) : CommandOnly s u := by
  obtain ⟨m, e, c, f, bits, k, rfl, hdel, hpend, hcont, hnvm, hcps, hknown⟩ := h
  obtain ⟨m', e', c', f', bits', k', rfl, hdel', hpend', hcont', hnvm', hcps', hknown'⟩ := h'
  refine ⟨m', e', c', f', bits', k', rfl, hdel'.trans hdel, ?_, hcont'.trans hcont, hnvm'.trans hnvm,
    hcps'.trans hcps, hknown'.trans hknown⟩
  obtain hkept | hnone := hpend'
  · exact hpend.imp hkept.trans hkept.trans
  · exact .inr hnone

theorem ReplyVoided.commandOnly {s t : State} (h : ReplyVoided s t) : CommandOnly s t := by
  obtain ⟨_, _, rfl, -⟩ := h
  exact ⟨_, _, _, _, _, _, rfl, rfl, .inl rfl, rfl, rfl, rfl, rfl⟩

/-- An update of the device followed by the voiding of the reply. -/
theorem CommandOnly.of_voidReply {s t u : State} (hu : CommandOnly s u)
    (h : (Outcome.next (voidReply u) : Result) = .next t) : CommandOnly s t := by
  cases h
  exact hu.trans (voidReply_replyVoided u).commandOnly

theorem unlessProtected_commandOnly {op : MchpOp} {run : State → Result} {s t : State}
    (hrun : ∀ {u t : State}, run u = .next t → CommandOnly u t) (h : unlessProtected op run s = .next t) :
    CommandOnly s t :=
  (lookedAtCps_replyVoided s).commandOnly.trans (hrun (unlessProtected_next h).2)

theorem assertReset_commandOnly (s : State) : CommandOnly s (assertReset s) :=
  ⟨_, _, _, _, _, _, rfl, rfl, .inr rfl, rfl, rfl, rfl, rfl⟩

theorem releaseReset_commandOnly (s : State) : CommandOnly s (releaseReset s) := by
  obtain hd | ⟨hd, hb⟩ | ⟨hd, hb, hk⟩ | ⟨hd, hb, hk⟩ := release_ways s
  · rw [releaseReset_of_not_asserted hd]
    exact (ReplyVoided.refl s).commandOnly
  · rw [releaseReset_of_ejtagBoot hd hb]
    exact ⟨_, _, _, _, _, _, rfl, rfl, .inl rfl, rfl, rfl, rfl, rfl⟩
  · rw [releaseReset_of_no_request hd hb hk]
    exact ⟨_, _, _, _, _, _, rfl, rfl, .inl rfl, rfl, rfl, rfl, rfl⟩
  · rw [releaseReset_of_request hd hb hk]
    exact ⟨_, _, _, _, _, _, rfl, rfl, .inl rfl, rfl, rfl, rfl, rfl⟩

theorem startErase_commandOnly (s : State) : CommandOnly s (startErase s) :=
  ⟨_, _, _, _, _, _, rfl, rfl, .inl rfl, rfl, rfl, rfl, rfl⟩

theorem switchFaen_commandOnly {b : Bool} {onMz : Fault} {s t : State} (h : switchFaen b onMz s = .next t) :
    CommandOnly s t := by
  unfold switchFaen at h
  split_ifs at h
  exact CommandOnly.of_voidReply (u := s.setMtap { s.mtap with faen := b })
    ⟨_, _, _, _, _, _, rfl, rfl, .inl rfl, rfl, rfl, rfl, rfl⟩ h

theorem exec_mchpErase_commandOnly {s t : State} (h : exec .mchpErase s = .next t) : CommandOnly s t := by
  cases hrun : s.flash.eraseRunning with
  | false => exact (startErase_commandOnly s).of_voidReply ((exec_mchpErase_of_idle hrun).symm.trans h)
  | true =>
    obtain ⟨r, hr⟩ := exec_mchpErase_of_running hrun
    exact CommandOnly.of_voidReply (u := s.bump.setMtap { s.mtap with fcBusy := true, cfgRdy := s.mtap.cfgRdy && r })
      ⟨_, _, _, _, _, _, rfl, rfl, .inl rfl, rfl, rfl, rfl, rfl⟩ (hr.symm.trans h)

/-- Settles O22, command by command. -/
theorem commandsLeaveTheTapAlone : Obligations.CommandsLeaveTheTapAlone := by
  intro i s t v hv h
  cases i with
  | mchpStatus =>
    cases h
    exact (ReplyVoided.refl s).commandOnly
  | mchpAssertRst => exact unlessProtected_commandOnly (assertReset_commandOnly _).of_voidReply h
  | mchpDeassertRst => exact unlessProtected_commandOnly (releaseReset_commandOnly _).of_voidReply h
  | mchpErase => exact exec_mchpErase_commandOnly h
  | mchpFlashEnable | mchpFlashDisable => exact unlessProtected_commandOnly switchFaen_commandOnly h
  | _ => cases hv

/-! ## Before the configuration step -/

/-- `t` with the CPS that `s` shows. -/
def withCpsOf (s t : State) : State :=
  { t with mtap := { t.mtap with cps := s.mtap.cps, cpsKnown := s.mtap.cpsKnown } }

theorem ReplyVoided.withCpsOf {t u : State} (s : State) (h : ReplyVoided t u) :
    ReplyVoided (withCpsOf s t) (withCpsOf s u) := by
  obtain ⟨bits, k, rfl, hkept, hlen⟩ := h
  exact ⟨bits, k, rfl, hkept, hlen⟩

/-- After the look at CPS `run` does what it does on the unprotected device, but that CPS stays and the reply is any value. -/
def CpsBlind (run : State → Result) : Prop :=
  ∀ s, (∀ f, run (unprotected s) = .fault f → run s.bump = .fault f) ∧
    ∀ t, run (unprotected s) = .next t → ∃ u, run s.bump = .next u ∧ ReplyVoided (withCpsOf s t) u

/-- An update of the device that takes no account of CPS, and then the voiding of the reply. -/
theorem replyVoided_of_blind_update {f : State → State} {s : State}
    (hf : withCpsOf s (f (unprotected s)) = { f s.bump with draws := s.draws }) :
    ReplyVoided (withCpsOf s (voidReply (f (unprotected s)))) (voidReply (f s.bump)) := by
  have hreply := (voidReply_replyVoided (f (unprotected s))).withCpsOf s
  have hlook : ReplyVoided (withCpsOf s (f (unprotected s))) (f s.bump) := hf ▸ (ReplyVoided.of_draws _ _).symm
  exact hreply.symm.trans (hlook.trans (voidReply_replyVoided _))

theorem cpsBlind_of_update {f : State → State}
    (hf : ∀ s, withCpsOf s (f (unprotected s)) = { f s.bump with draws := s.draws }) :
    CpsBlind fun s => .next (voidReply (f s)) := by
  refine fun s => ⟨nofun, fun t ht => ?_⟩
  cases ht
  exact ⟨_, rfl, replyVoided_of_blind_update (hf s)⟩

theorem assertReset_blind (s : State) :
    withCpsOf s (assertReset (unprotected s)) = { assertReset s.bump with draws := s.draws } := rfl

theorem releaseReset_blind (s : State) :
    withCpsOf s (releaseReset (unprotected s)) = { releaseReset s.bump with draws := s.draws } := by
  obtain hd | ⟨hd, hb⟩ | ⟨hd, hb, hk⟩ | ⟨hd, hb, hk⟩ := release_ways s
  · rw [releaseReset_of_not_asserted (s := unprotected s) hd, releaseReset_of_not_asserted (s := s.bump) hd]
    rfl
  · rw [releaseReset_of_ejtagBoot (s := unprotected s) hd hb, releaseReset_of_ejtagBoot (s := s.bump) hd hb]
    rfl
  · rw [releaseReset_of_no_request (s := unprotected s) hd hb hk, releaseReset_of_no_request (s := s.bump) hd hb hk]
    rfl
  · rw [releaseReset_of_request (s := unprotected s) hd hb hk, releaseReset_of_request (s := s.bump) hd hb hk]
    rfl

theorem switchFaen_cpsBlind (b : Bool) (onMz : Fault) : CpsBlind (switchFaen b onMz) := by
  intro s
  by_cases hmz : s.cfg.family = .mz
  · rw [switchFaen_of_mz b onMz (s := unprotected s) hmz, switchFaen_of_mz b onMz (s := s.bump) hmz]
    exact ⟨fun _ => id, fun _ ht => by cases ht⟩
  · rw [switchFaen_of_ne_mz b onMz (s := unprotected s) hmz, switchFaen_of_ne_mz b onMz (s := s.bump) hmz]
    exact cpsBlind_of_update (f := fun s => s.setMtap { s.mtap with faen := b }) (fun _ => rfl) s

/-- Where CPS is a draw, a command whose meaning is blind to it is turned away or runs as on the unprotected device. -/
theorem protected_or_asUnprotected {i : Instr} {op : MchpOp} {run : State → Result} {s : State}
    (hexec : ∀ s, exec i s = unlessProtected op run s) (hrun : CpsBlind run) (hs : s.mtap.cpsKnown = false) :
    exec i s = .fault (.protectedCmd op) ∨ AsUnprotected i s := by
  have hunprotected : exec i (unprotected s) = run (unprotected s) :=
    (hexec _).trans (unlessProtected_of_configured ⟨rfl, rfl⟩)
  refine (unlessProtected_of_unknown (run := run) hs).imp (hexec s).trans fun hbump => ?_
  rw [AsUnprotected, hunprotected, hexec s, hbump]
  exact hrun s

/-- ERASE never looks at CPS (41 R199). -/
theorem exec_mchpErase_starts (s : State) : ∃ t, exec .mchpErase s = .next t ∧ t.flash.eraseRunning = true := by
  cases hrun : s.flash.eraseRunning with
  | false => exact ⟨_, exec_mchpErase_of_idle hrun, congrArg Flash.eraseRunning (voidReply_replyVoided _).flash⟩
  | true =>
    obtain ⟨r, hr⟩ := exec_mchpErase_of_running hrun
    exact ⟨_, hr, (congrArg Flash.eraseRunning (voidReply_replyVoided _).flash).trans hrun⟩

/-- Settles O19: the four commands are guarded by the look at CPS, and blind to CPS after it. -/
theorem protectionStopsFourCommands : Obligations.ProtectionStopsFourCommands :=
  ⟨fun s hknown hcps =>
      ⟨(exec_mchpAssertRst s).trans (unlessProtected_of_protected hknown hcps),
        (exec_mchpDeassertRst s).trans (unlessProtected_of_protected hknown hcps),
        (exec_mchpFlashEnable s).trans (unlessProtected_of_protected hknown hcps),
        (exec_mchpFlashDisable s).trans (unlessProtected_of_protected hknown hcps), rfl, exec_mchpErase_starts s⟩,
    fun _ hknown =>
      ⟨protected_or_asUnprotected exec_mchpAssertRst (cpsBlind_of_update assertReset_blind) hknown,
        protected_or_asUnprotected exec_mchpDeassertRst (cpsBlind_of_update releaseReset_blind) hknown,
        protected_or_asUnprotected exec_mchpFlashEnable (switchFaen_cpsBlind _ _) hknown,
        protected_or_asUnprotected exec_mchpFlashDisable (switchFaen_cpsBlind _ _) hknown⟩⟩

end Sys2Proof.Machine
end

section
/-! SUPPORT. The flash agent's turns (41_mtap.md R204 to R206). -/

namespace Sys2Proof.Machine

theorem nextTurn_of_flash {s : State} {m : FlashMove} {rest : List Turn} (h : s.agenda = .flash m :: rest) :
    nextTurn s = flashTurn m { s with agenda := rest } := by
  simp [nextTurn, h, runTurn]

theorem step_of_flash {s : State} {m : FlashMove} {rest : List Turn} (h : TurnOf (.flash m) rest s) :
    step s = .next (flashTurn m { s with agenda := rest }) := by
  obtain ⟨hfaults, hrefused, hagenda⟩ := h
  rw [step_unmarked hfaults hrefused, nextTurn_of_flash hagenda]

section

variable {s : State}

theorem flashTurn_finishErase (h : s.flash.eraseRunning = true) : flashTurn .finishErase s = finishErase s := if_pos h

theorem flashTurn_configure (h : s.flash.configPending = true) : flashTurn .configure s = configure s := if_pos h

theorem flashTurn_finishErase_idle (h : s.flash.eraseRunning = false) : flashTurn .finishErase s = s := by
  simp [flashTurn, h]

theorem flashTurn_configure_done (h : s.flash.configPending = false) : flashTurn .configure s = s := by
  simp [flashTurn, h]

end

/-- Settles O43: each of the two turns, where it is due and where it is not. -/
theorem flashAgentSteps : Obligations.FlashAgentSteps := by
  intro s rest
  have takes {m : FlashMove} {t : State} (hturn : TurnOf (.flash m) rest s)
      (h : flashTurn m { s with agenda := rest } = t) : step s = .next t :=
    h ▸ step_of_flash hturn
  exact ⟨fun hturn =>
      ⟨fun hdue => ⟨_, _, takes hturn (flashTurn_finishErase hdue)⟩,
        fun hidle => takes hturn (flashTurn_finishErase_idle hidle)⟩,
    fun hturn =>
      ⟨fun hdue => takes hturn (flashTurn_configure hdue),
        fun hdone => takes hturn (flashTurn_configure_done hdone)⟩⟩

/-- Settles O59: a turn of the flash agent changes the flash, the device's flags and at most one draw. -/
theorem flashAgentLeavesTheTapAndEjtag : Obligations.FlashAgentLeavesTheTapAndEjtag := by
  intro s t m rest hagenda h
  obtain ⟨-, -, rfl⟩ := step_next h
  obtain ⟨_, _, _, e⟩ := flashTurn_cases m { s with agenda := rest }
  rw [nextTurn_of_flash hagenda, e]
  exact ⟨rfl, rfl, rfl, rfl, rfl, rfl, rfl, rfl, rfl, rfl, rfl⟩

end Sys2Proof.Machine
end

section
/-! SUPPORT. The ETAP instructions (42_etap.md R220 to R240): what a Control write, a FastData update and an `ETAP_ALL` update leave, and with it the
meaning of each instruction in the states in which it acts. -/

namespace Sys2Proof.Machine

/-! ## The Control write -/

section

variable {n : Nat} {l : EcrLayout} {v : BitVec n}

theorem ecrFault_of_perRst (h : v.getLsbD l.perRst = true) : ecrFault l v = some (.unmodelledEcrWrite .perRst) :=
  if_pos h

theorem ecrFault_of_prRst (hper : v.getLsbD l.perRst = false) (hpr : v.getLsbD l.prRst = true) :
    ecrFault l v = some (.unmodelledEcrWrite .prRst) := by
  rw [ecrFault, hper, hpr]
  rfl

theorem ecrFault_of_neither (hper : v.getLsbD l.perRst = false) (hpr : v.getLsbD l.prRst = false) :
    ecrFault l v = none := by
  rw [ecrFault, hper, hpr]
  rfl

end

/-- The completion of an access, said in the terms of the statements. -/
theorem completeAccess_eq (s : State) : completeAccess s = { s with cpu := cpuAfterControl false s.ejData s.cpu } := by
  obtain ⟨hp, e⟩ | ⟨a, hp, e⟩ := completeAccess_cases s <;> rw [e]
  · simp only [cpuAfterControl, hp]
  · cases hk : a.kind <;> simp only [cpuAfterControl, hp, hk, deliver, State.setCpu]

/-- A Control write that passes the check writes the CPU's access and the Control fields, and nothing else (42 R230, R231). -/
theorem ecrApply_eq {n : Nat} (v : BitVec n) (s : State) : ecrApply v s = { s with
    cpu := cpuAfterControl (writeAs s.cfg.ecrAccess.prAcc s.prAcc (v.getLsbD s.cfg.ecrLayout.prAcc)) s.ejData s.cpu
    ecr := ecrFields s.cfg.ecrLayout s.cfg.ecrAccess v s.ecr } := by
  unfold ecrApply
  cases writeAs s.cfg.ecrAccess.prAcc s.prAcc (v.getLsbD s.cfg.ecrLayout.prAcc) with
  | true => rfl
  | false =>
    exact congrArg (fun u : State => u.setEcr (ecrFields s.cfg.ecrLayout s.cfg.ecrAccess v u.ecr)) (completeAccess_eq s)

/-- A word that passes the check writes PerRst and PrRst with 0 (log 25). -/
theorem ecrApply_of_neither {n : Nat} {v : BitVec n} {s : State} (hper : v.getLsbD s.cfg.ecrLayout.perRst = false)
    (hpr : v.getLsbD s.cfg.ecrLayout.prRst = false) : ecrApply v s = { s with
      cpu := cpuAfterControl (writeAs s.cfg.ecrAccess.prAcc s.prAcc (v.getLsbD s.cfg.ecrLayout.prAcc)) s.ejData s.cpu
      ecr := { ecrFields s.cfg.ecrLayout s.cfg.ecrAccess v s.ecr with
        perRst := writeAs s.cfg.ecrAccess.perRst s.ecr.perRst false
        prRst := writeAs s.cfg.ecrAccess.prRst s.ecr.prRst false } } := by
  rw [ecrApply_eq]
  simp only [ecrFields, hper, hpr]

/-- With no access pending there is none to complete, so it does not matter whether PrAcc reads 0 or is written 0. -/
theorem cpuAfterControl_pending_and (b : Bool) (w : Word) (c : Cpu) :
    cpuAfterControl (c.pending.isSome && b) w c = cpuAfterControl b w c := by
  cases hp : c.pending with
  | some a => simp
  | none => cases b <;> simp [cpuAfterControl, hp]

theorem exec_etapControl_of_udr {s : State} {v : BitVec s.cfg.ecrLen} (hq : s.tapState = .udr)
    (hs : s.drShift = bitsOf v) : exec .etapControl s = ecrWrite v s := by
  have h : exec .etapControl s = ecrWrite (ofBits s.cfg.ecrLen s.drShift) s := tapInstr_of_udr hq
  rw [h, hs, ofBits_bitsOf]

theorem ecrWrite_of_fault {n : Nat} {v : BitVec n} {s : State} {f : Fault} (h : ecrFault s.cfg.ecrLayout v = some f) :
    ecrWrite v s = .fault f := by
  simp only [ecrWrite, h]

theorem ecrWrite_of_pass {n : Nat} {v : BitVec n} {s : State} (h : ecrFault s.cfg.ecrLayout v = none) :
    ecrWrite v s = .next (ecrApply v s) := by
  simp only [ecrWrite, h]

/-- Settles O10: the check of PerRst and PrRst, then the fields by their rights; the default rights are a case of these. -/
theorem controlWriteFollowsItsFields : Obligations.ControlWriteFollowsItsFields := by
  refine ⟨fun _ _ => ⟨rfl, rfl, rfl, rfl⟩, ?_⟩
  intro s v hq hs l a
  have hexec := exec_etapControl_of_udr hq hs
  have passes (hper : v.getLsbD l.perRst = false) (hpr : v.getLsbD l.prRst = false) :
      exec .etapControl s = .next { s with
        cpu := cpuAfterControl (writeAs a.prAcc s.cpu.pending.isSome (v.getLsbD l.prAcc)) s.ejData s.cpu
        ecr := { ecrFields l a v s.ecr with
          perRst := writeAs a.perRst s.ecr.perRst false, prRst := writeAs a.prRst s.ecr.prRst false } } := by
    rw [hexec, ecrWrite_of_pass (ecrFault_of_neither hper hpr), ecrApply_of_neither hper hpr]
    rfl
  refine ⟨fun hper => hexec.trans (ecrWrite_of_fault (ecrFault_of_perRst hper)),
    fun hper hpr => hexec.trans (ecrWrite_of_fault (ecrFault_of_prRst hper hpr)), passes, fun hper hpr ha => ?_⟩
  rw [passes hper hpr, ha]
  simp only [ecrFields, defaultEcrAccess, writeAs_rw, writeAs_w0, writeAs_w1, cpuAfterControl_pending_and]

/-! ## FastData -/

theorem fdPending_iff (s : State) : s.fdPending = true ↔ ∃ a, s.cpu.pending = some a ∧
    (a.kind = .load ∨ a.kind = .store) ∧ s.cfg.fastdataLo ≤ a.addr ∧ a.addr ≤ s.cfg.fastdataHi := by
  unfold State.fdPending
  cases s.cpu.pending with
  | none => simp
  | some a => simp [inFastdata]

/-- The two ways of a FastData update (42 R240): a transfer, or the loss of the word. -/
theorem fastdataUpdate_of_transfer {s : State} {w : Word} (hs : s.drShift = false :: bitsOf w) (hc : s.fdCapt = true) :
    fastdataUpdate s = fastdataTransfer w s := by
  simp [fastdataUpdate, fastdataParts, hs, hc]

theorem fastdataUpdate_of_loss {s : State} {b : Bool} {w : Word} (hs : s.drShift = b :: bitsOf w)
    (h : s.fdCapt = false ∨ b = true) : fastdataUpdate s = (s.setEjData (Config.free 32 s.draws)).bump := by
  obtain h | h := h <;> simp [fastdataUpdate, fastdataParts, hs, h]

section

variable {s : State} {a : Access} (w : Word) (hp : s.cpu.pending = some a)
include hp

theorem fastdataTransfer_load (hk : a.kind = .load) : fastdataTransfer w s =
    { s with ejData := w, cpu := { s.cpu with pending := none, delivered := s.cpu.delivered ++ [w] } } := by
  simp only [fastdataTransfer, hp, hk, if_true]
  rw [completeAccess_some (s := s.setEjData w) hp, deliver, hk]
  rfl

theorem fastdataTransfer_store (hk : a.kind = .store) : fastdataTransfer w s =
    { s with cpu := { s.cpu with pending := none } } := by
  simp only [fastdataTransfer, hp, hk, reduceCtorEq, if_false]
  rw [completeAccess_some hp, deliver, hk]

end

theorem exec_etapFastdata_of_udr {s : State} (hq : s.tapState = .udr) :
    exec .etapFastdata s = .next (fastdataUpdate s) :=
  (exec_etapFastdata s).trans (tapInstr_of_udr hq)

/-- Settles O12: the two ways of the update, the transfer by the kind of the access. -/
theorem fastdataServesLoadsAndStores : Obligations.FastdataServesLoadsAndStores := by
  refine ⟨Laws.TableRoundTrip.etapFastdata .etap rfl, fun s => ⟨fdPending_iff s,
    fun hq => (exec_etapFastdata s).trans (tapInstr_of_uir hq), fun hq => (exec_etapFastdata s).trans (tapInstr_of_cdr hq),
    fun hq b w hs => ⟨fun hc hb a hp => ?transfer, fun hloss => ?loss⟩⟩⟩
  case transfer =>
    subst hb
    rw [exec_etapFastdata_of_udr hq, fastdataUpdate_of_transfer hs hc]
    exact ⟨fun hk => by rw [fastdataTransfer_load w hp hk], fun hk => by rw [fastdataTransfer_store w hp hk]⟩
  case loss =>
    rw [exec_etapFastdata_of_udr hq, fastdataUpdate_of_loss hs hloss]
    exact ⟨_, _, rfl⟩

/-! ## The chain of all three registers -/

section

variable {s : State} {v : BitVec s.cfg.ecrLen} (hv : allPart s.cfg .control s.cfg.allOrder s.drShift = bitsOf v)
include hv

theorem allUpdate_of_fault {f : Fault} (hf : ecrFault s.cfg.ecrLayout v = some f) : allUpdate s = .fault f := by
  simp only [allUpdate, hv, ofBits_bitsOf, hf]

/-- The Control write and the Data write are made in the one order or the other (log 14). -/
theorem allUpdate_of_pass {w : Word} (hw : allPart s.cfg .data s.cfg.allOrder s.drShift = bitsOf w)
    (hf : ecrFault s.cfg.ecrLayout v = none) :
    allUpdate s = .next (ecrApply v (s.bump.setEjData w)) ∨ allUpdate s = .next ((ecrApply v s.bump).setEjData w) := by
  simp only [allUpdate, hv, hw, ofBits_bitsOf, hf]
  split_ifs
  · exact .inl rfl
  · exact .inr rfl

end

/-- Settles O13: a completed access receives the new Data value where the Data write comes first, and the old one where it comes second. -/
theorem etapAllIsControlAndData : Obligations.EtapAllIsControlAndData := by
  refine fun s => ⟨fun ha => ⟨fun hq => (ifAdmitted_of_true ha).trans (tapInstr_of_uir hq),
    fun hq => ⟨_, _, _, (ifAdmitted_of_true ha).trans (tapInstr_of_cdr hq)⟩, ?update⟩, ifAdmitted_of_false⟩
  intro hq v w hv hw l r
  have hexec : exec .etapAll s = allUpdate s := (ifAdmitted_of_true ha).trans (tapInstr_of_udr hq)
  refine ⟨fun hper => hexec.trans (allUpdate_of_fault hv (ecrFault_of_perRst hper)),
    fun hper hpr => hexec.trans (allUpdate_of_fault hv (ecrFault_of_prRst hper hpr)), fun hper hpr => ?_⟩
  obtain h | h := allUpdate_of_pass hv hw (ecrFault_of_neither hper hpr)
  · refine ⟨w, s.draws + 1, .inr rfl, ?_⟩
    rw [hexec, h, ecrApply_of_neither (s := s.bump.setEjData w) hper hpr]
    rfl
  · refine ⟨s.ejData, s.draws + 1, .inl rfl, ?_⟩
    rw [hexec, h, ecrApply_of_neither (s := s.bump) hper hpr]
    rfl

/-! ## The other instructions -/

/-- Settles O5. -/
theorem etapReadOnlyRegistersCapture : Obligations.EtapReadOnlyRegistersCapture := by
  refine ⟨⟨Laws.TableRoundTrip.etapIdcode .etap rfl, Laws.TableRoundTrip.etapImpcode .etap rfl,
    Laws.TableRoundTrip.etapAddress .etap rfl⟩, fun s => ⟨fun ha => ⟨fun hq => ?latch, fun hq => ?capture, fun hq => ?update⟩,
    fun ha => ⟨ifAdmitted_of_false ha, ifAdmitted_of_false ha, ifAdmitted_of_false ha⟩⟩⟩
  case latch =>
    exact ⟨(ifAdmitted_of_true ha).trans (tapInstr_of_uir hq), (ifAdmitted_of_true ha).trans (tapInstr_of_uir hq),
      (ifAdmitted_of_true ha).trans (tapInstr_of_uir hq)⟩
  case capture =>
    refine ⟨(ifAdmitted_of_true ha).trans (tapInstr_of_cdr hq), (ifAdmitted_of_true ha).trans (tapInstr_of_cdr hq),
      s.addrBits (Config.free s.cfg.addrLen s.draws), s.draws + 1, (ifAdmitted_of_true ha).trans (tapInstr_of_cdr hq),
      s.addrBits_length _, fun hp i h32 hi => ?_⟩
    rw [s.addrBits_getD _ hi, State.addrBit, Option.isSome_iff_ne_none.mpr hp, decide_eq_true h32]
    rfl
  case update =>
    exact ⟨(ifAdmitted_of_true ha).trans (tapInstr_of_udr hq), (ifAdmitted_of_true ha).trans (tapInstr_of_udr hq),
      (ifAdmitted_of_true ha).trans (tapInstr_of_udr hq)⟩

theorem exec_etapData_of_udr {s : State} {w : Word} (hq : s.tapState = .udr) (hs : s.drShift = bitsOf w) :
    exec .etapData s = .next { s with ejData := w } := by
  have h : exec .etapData s = .next (s.setEjData (ofBits 32 s.drShift)) := (exec_etapData s).trans (tapInstr_of_udr hq)
  have hw : ofBits 32 s.drShift = w := by rw [hs, ofBits_bitsOf]
  rw [h, hw]
  rfl

/-- Settles O6. -/
theorem etapDataMovesTheDataRegister : Obligations.EtapDataMovesTheDataRegister :=
  ⟨Laws.TableRoundTrip.etapData .etap rfl, fun s =>
    ⟨fun hq => (exec_etapData s).trans (tapInstr_of_uir hq), fun hq => (exec_etapData s).trans (tapInstr_of_cdr hq),
      fun hq _ hs => exec_etapData_of_udr hq hs⟩⟩

/-- Settles O7. -/
theorem bootInstructionsSetTheFlag : Obligations.BootInstructionsSetTheFlag := fun _ =>
  ⟨fun hq => ⟨tapInstr_of_uir hq, fun ha => (ifAdmitted_of_true ha).trans (tapInstr_of_uir hq)⟩,
    fun hq => ⟨tapInstr_of_cdr hq, fun ha => (ifAdmitted_of_true ha).trans (tapInstr_of_cdr hq)⟩,
    fun hq => ⟨tapInstr_of_udr hq, fun ha => (ifAdmitted_of_true ha).trans (tapInstr_of_udr hq)⟩,
    ifAdmitted_of_false⟩

/-- Settles O8. -/
theorem etapControlCapturesTheControlValue : Obligations.EtapControlCapturesTheControlValue := fun s =>
  ⟨tapInstr_of_uir, fun hq => ⟨Config.free s.cfg.ecrLen s.draws, s.draws + 1, _, tapInstr_of_cdr hq, s.ecrBits_length _,
    fun _ hi => s.ecrBits_getD _ hi _⟩⟩

end Sys2Proof.Machine
end

section
/-! SUPPORT. The CPU's turns (42_etap.md R250 to R261, 60_exceptions.md R382 to R384): when each move is enabled, and what a turn that is not enabled
leaves. -/

namespace Sys2Proof.Machine

theorem step_of_cpu {s : State} {m : CpuMove} {rest : List Turn} (h : TurnOf (.cpu m) rest s) :
    step s = .next (cpuTurn m { s with agenda := rest }) := by
  obtain ⟨hfaults, hrefused, hagenda⟩ := h
  simp [step_unmarked hfaults hrefused, nextTurn, hagenda, runTurn]

/-- When the CPU may post (42 R250 to R252), condition by condition. -/
theorem mayPost_iff {a : Access} {s : State} : mayPost a s = true ↔
    s.cpu.mode = .debug ∧ s.cpu.pending = none ∧ (s.cfg.dmsegLo ≤ a.addr ∧ a.addr ≤ s.cfg.dmsegHi) ∧
      (s.cpu.atVector = true → a.kind = .fetch ∧ a.size = .word ∧ a.addr = s.cfg.dmsegVector) := by
  simp only [mayPost, inDmseg, isVectorFetch, Bool.and_eq_true, Bool.or_eq_true, beq_iff_eq, decide_eq_true_eq,
    Option.isNone_iff_eq_none, Bool.not_eq_true', ← Bool.not_eq_true, imp_iff_not_or, and_assoc]

/-- The condition under which a move's rule lets the CPU make it. -/
def MoveEnabled (s : State) : CpuMove → Prop
  | .stay => False
  | .post a => mayPost a s = true
  | .leaveDebug => s.cpu.mode = .debug ∧ s.cpu.pending = none
  | .takeDebug => s.cpu.mode = .run ∧ s.ecr.ejtagBrk = true

theorem cpuTurn_of_not_enabled {m : CpuMove} {s : State} (h : ¬ MoveEnabled s m) : cpuTurn m s = s := by
  cases m with
  | stay => rfl
  | post a | leaveDebug | takeDebug => exact if_neg h

theorem cpuTurn_post {a : Access} {s : State} (h : mayPost a s = true) :
    cpuTurn (.post a) s = if s.ecr.probEn then postAccess a s else s.mark .debugWithoutProbEn :=
  if_pos h

/-- Settles O40. -/
theorem cpuPostsOneAccess : Obligations.CpuPostsOneAccess := by
  intro s a rest hturn hmode hpend hlo hhi hvector
  have hpost : mayPost a { s with agenda := rest } = true := mayPost_iff.mpr ⟨hmode, hpend, ⟨hlo, hhi⟩, hvector⟩
  have hstep := step_of_cpu hturn
  obtain ⟨hfaults, -, -⟩ := hturn
  rw [hstep, cpuTurn_post hpost]
  refine ⟨fun hp => ?_, fun hp => ?_⟩
  · simp [hp, postAccess]
  · simp [hp, State.mark, hfaults]

/-- Settles O41: each alternative contradicts the condition of the move it names, the first two that of every move. -/
theorem cpuTurnsThatAreNotEnabled : Obligations.CpuTurnsThatAreNotEnabled := by
  intro s m rest hturn h
  suffices hne : ¬ MoveEnabled { s with agenda := rest } m by rw [step_of_cpu hturn, cpuTurn_of_not_enabled hne]
  intro he
  cases m with
  | stay => exact he
  | post a =>
    obtain ⟨hmode, hpend, ⟨hlo, hhi⟩, hvector⟩ := mayPost_iff.mp he
    dsimp only at hmode hpend hlo hhi hvector
    obtain hreset | ⟨hp, -⟩ | ⟨b, hb, hrun | hbelow | habove | ⟨hat, hnot⟩⟩ | ⟨hm, -⟩ | ⟨hm, -⟩ := h
    · simp [hmode] at hreset
    · exact hp hpend
    · simp [hmode] at hrun
    · cases hb
      exact BitVec.not_le.mpr hbelow hlo
    · cases hb
      exact BitVec.not_le.mpr habove hhi
    · cases hb
      exact hnot (hvector hat)
    · cases hm
    · cases hm
  | leaveDebug =>
    obtain ⟨hmode, hpend⟩ : s.cpu.mode = .debug ∧ s.cpu.pending = none := he
    simp [hmode, hpend] at h
  | takeDebug =>
    obtain ⟨hmode, hbrk⟩ : s.cpu.mode = .run ∧ s.ecr.ejtagBrk = true := he
    simp [hmode, hbrk] at h

end Sys2Proof.Machine
end

section
/-! SUPPORT. The words the CPU receives (42_etap.md R231, R261, 20_memory.md R79): the one operation that delivers a word is the completion of an
access, and only an Update-DR completes one. -/

namespace Sys2Proof.Machine

/-- From `s` to `t` no word is delivered, or a pending fetch or load ends with one word. -/
def DeliveryStep (s t : State) : Prop :=
  t.cpu.delivered = s.cpu.delivered ∨
    ∃ a w, s.cpu.pending = some a ∧ a.kind ≠ .store ∧ t.cpu.pending = none ∧
      t.cpu.delivered = s.cpu.delivered ++ [w]

theorem DeliveryStep.of_cpu {s t u v : State} (h : DeliveryStep s t) (hu : u.cpu = s.cpu) (hv : v.cpu = t.cpu) :
    DeliveryStep u v := by
  rwa [DeliveryStep, hu, hv]

theorem deliveryStep_of_cpu {s t : State} (h : t.cpu = s.cpu) : DeliveryStep s t := .inl (congrArg Cpu.delivered h)

theorem completeAccess_deliveryStep (s : State) : DeliveryStep s (completeAccess s) := by
  obtain ⟨-, e⟩ | ⟨a, hp, -⟩ := completeAccess_cases s
  · exact deliveryStep_of_cpu (by rw [e])
  · have hdel := completeAccess_delivered hp
    cases hk : a.kind with
    | store => exact .inl (by rw [hdel, deliver, hk])
    | fetch | load =>
      exact .inr ⟨a, s.ejData, hp, by simp [hk], completeAccess_pending s, by rw [hdel, deliver, hk]⟩

theorem ecrApply_deliveryStep {n : Nat} (v : BitVec n) (s : State) : DeliveryStep s (ecrApply v s) := by
  obtain ⟨u, rfl | rfl, e⟩ := ecrApply_cases v s <;> rw [e]
  · exact deliveryStep_of_cpu rfl
  · exact (completeAccess_deliveryStep s).of_cpu rfl rfl

theorem fastdataUpdate_deliveryStep (s : State) : DeliveryStep s (fastdataUpdate s) := by
  unfold fastdataUpdate
  split_ifs
  · obtain ⟨-, e⟩ | ⟨u, hu, e⟩ := fastdataTransfer_cases (fastdataParts s.drShift).2 s <;> rw [e]
    · exact deliveryStep_of_cpu rfl
    · refine (completeAccess_deliveryStep u).of_cpu ?_ rfl
      obtain rfl | rfl := hu <;> rfl
  · exact deliveryStep_of_cpu rfl

theorem allUpdate_deliveryStep {s t : State} (h : allUpdate s = .next t) : DeliveryStep s t := by
  unfold allUpdate at h
  dsimp only at h
  split at h
  · cases h
  · split_ifs at h <;> cases h
    · exact (ecrApply_deliveryStep _ (s.bump.setEjData _)).of_cpu rfl rfl
    · exact (ecrApply_deliveryStep _ s.bump).of_cpu rfl rfl

/-- A command delivers no word: it is one of the six of 30 R111, and those leave the words delivered. -/
theorem mchpExec_deliveryStep {s t : State} (h : mchpExec s = .next t) : DeliveryStep s t := by
  cases hd : decodeMchp s.cfg.codes (ofBits 8 s.drShift) with
  | error e => cases (mchpExec_of_error hd).symm.trans h
  | ok i =>
    have hi : encode s.cfg.codes i = .mchp (ofBits 8 s.drShift) :=
      (encode_of_rowOf (t := .mtap) (w := .mchp _) ⟨rfl, decodeMchp_mem hd⟩).1
    obtain ⟨_, _, _, _, _, _, rfl, hdel, -⟩ := commandsLeaveTheTapAlone i s t _ hi ((mchpExec_of_ok hd).symm.trans h)
    exact .inl hdel

theorem drUpdate_deliveryStep {i : Instr} {s t : State} (h : drUpdate i s = .next t) : DeliveryStep s t := by
  cases i with
  | mtapCommand => exact mchpExec_deliveryStep h
  | etapControl =>
    obtain ⟨-, rfl⟩ := ecrWrite_next h
    exact ecrApply_deliveryStep _ s
  | etapAll => exact allUpdate_deliveryStep h
  | etapFastdata =>
    cases h
    exact fastdataUpdate_deliveryStep s
  | _ =>
    cases h
    exact deliveryStep_of_cpu rfl

theorem tck_deliveryStep (tms tdi : Bool) {s : State} (hq : s.tapState = .udr) : DeliveryStep s (tck tms tdi s) := by
  obtain ⟨t, ht, e⟩ | ⟨f, -, e⟩ | ⟨r, -, e | e⟩ := tck_cases tms tdi s <;> rw [e]
  · have hrun : runCode s.ir s = .next t := by simpa only [tapAction, hq] using ht
    obtain ⟨i, hi, hx⟩ := runCode_next hrun
    exact (drUpdate_deliveryStep (exec_udr (encode_of_decodeIr hi) hx hq)).of_cpu rfl rfl
  all_goals exact deliveryStep_of_cpu rfl

theorem HostMove.deliveryStep {s t : State} (h : HostMove s t) :
    t.cpu.delivered = s.cpu.delivered ∨ (s.tapState = .udr ∧ DeliveryStep s t) := by
  by_cases hq : s.tapState = .udr
  · refine .inr ⟨hq, ?_⟩
    obtain h | ⟨tms, tdi, hst, h⟩ := h
    · exact deliveryStep_of_cpu (cpu_of_block h.block)
    · exact (tck_deliveryStep tms tdi (s := s.setHost hst) hq).of_cpu rfl (cpu_of_block h.block)
  · exact .inl (congrArg Cpu.delivered (h.cpu hq))

theorem cpuTurn_delivered (m : CpuMove) (s : State) : (cpuTurn m s).cpu.delivered = s.cpu.delivered := by
  obtain e | ⟨a, -, -, -, e⟩ | ⟨a, -, e⟩ | ⟨-, -, e⟩ | ⟨-, e⟩ := cpuTurn_cases m s <;> rw [e] <;> rfl

/-- A turn that is no power-on delivers a word at Update-DR only. -/
theorem runTurn_deliveryStep {turn : Turn} (s : State) (hpow : turn ≠ .powerOn) :
    (runTurn turn s).cpu.delivered = s.cpu.delivered ∨ (s.tapState = .udr ∧ DeliveryStep s (runTurn turn s)) := by
  cases turn with
  | host => exact (hostTurn_move s).deliveryStep
  | cpu m => exact .inl (cpuTurn_delivered m s)
  | flash m => exact .inl (congrArg Cpu.delivered (flashTurn_cpu m s))
  | hostGarbled => exact (garbledTurn_move s).deliveryStep
  | transportFail => exact (transportFails_move s).deliveryStep
  | powerOn => exact absurd rfl hpow

theorem nextTurn_deliveryStep {s : State} (hpow : ∀ rest, s.agenda ≠ .powerOn :: rest) :
    (nextTurn s).cpu.delivered = s.cpu.delivered ∨ (s.tapState = .udr ∧ DeliveryStep s (nextTurn s)) := by
  unfold nextTurn
  split
  · exact (hostTurn_move s).deliveryStep
  · next turn rest hagenda => exact runTurn_deliveryStep { s with agenda := rest } fun ht => hpow rest (ht ▸ hagenda)

/-- Settles O57. -/
theorem wordsAreDeliveredByCompletionOnly : Obligations.WordsAreDeliveredByCompletionOnly := by
  intro s t h hpow
  obtain ⟨-, -, rfl⟩ := step_next h
  obtain hkept | ⟨hq, hkept | hword⟩ := nextTurn_deliveryStep hpow
  · exact .inl hkept
  · exact .inl hkept
  · exact .inr ⟨hq, hword⟩

end Sys2Proof.Machine
end

section
/-! SUPPORT. The injection of a word (42_etap.md R254, R261, 43_host_sequences.md R287): each scan of the handshake as one update of the state, and what the
six of them in a row leave of a waiting access. -/

namespace Sys2Proof.Machine

/-! ## The scans of the handshake -/

/-- Under ETAP and a legal code table a listed instruction's code decodes to it. -/
theorem decodeIr_of_mem_irRows {c : Codes} {u : Tap} {v : IrCode} {i : Instr} (hc : c.legal = true)
    (h : (v, i) ∈ irRows c u) : decodeIr c u v = .ok i :=
  decode_of_rowOf (w := .ir v) hc h

theorem exec_etapControl_of_cdr {s : State} (hq : s.tapState = .cdr) : exec .etapControl s = .next (captureControl s) :=
  tapInstr_of_cdr hq

section

variable {s : State} (hu : s.unmarked = true) (hq : s.tapState = .rti)
include hu hq

/-- An IR scan of an instruction that does nothing at Update-IR but latch its code. -/
theorem cycles_irScan_latch {c : IrCode} {i : Instr} (hi : decodeIr s.cfg.codes s.tapSel c = .ok i)
    (hlatch : ∀ u : State, u.cfg = s.cfg → u.tapState = .uir → exec i u = .next (u.latchIr c)) :
    cycles (Scan.cycles (.ir c)) s =
      { s with tapState := .rti, ir := c, irShift := .ofCode c, draws := s.draws + 1 } :=
  irScanIsTheUpdateOfItsCode s _ c i hu hq hi (hlatch _ rfl rfl)

/-- A DR scan with as many bits as the register has reads the register and puts the bits in their place. -/
theorem cycles_drScan_whole (rd : Bool) {bits : List Bool} {i : Instr} {p t : State}
    (hi : decodeIr s.cfg.codes s.tapSel s.ir = .ok i) (hb : bits ≠ []) (hlen : p.drShift.length = bits.length)
    (hcap : exec i { s with tapState := .cdr } = .next p)
    (hupd : exec i { p with
      tapState := .udr
      drShift := bits
      host := { p.host with rx := if rd then p.host.rx ++ p.drShift else p.host.rx } } = .next t) :
    cycles (Scan.cycles (.dr bits rd)) s = { t with tapState := .rti } := by
  have hd : p.drShift ≠ [] := List.ne_nil_of_length_pos (hlen ▸ List.length_pos_of_ne_nil hb)
  refine drScanIsCaptureShiftUpdate s p t bits rd i hu hq hi hb hcap hd ?_
  rw [← hlen, List.drop_left, List.take_left]
  exact hupd

/-- A Data scan writes the Data register and completes no access. -/
theorem cycles_dataScan {w : Word} (hi : decodeIr s.cfg.codes s.tapSel s.ir = .ok .etapData) :
    cycles (Scan.cycles (.dr (bitsOf w) false)) s =
      { s with tapState := .rti, drShift := bitsOf w, ejData := w } := by
  have hcap : exec .etapData { s with tapState := .cdr } =
      .next { s with tapState := .cdr, drShift := bitsOf s.ejData } := (exec_etapData _).trans (tapInstr_of_cdr rfl)
  exact cycles_drScan_whole hu hq false hi (by simp) (by simp) hcap (exec_etapData_of_udr rfl rfl)

/-- A Control scan with a handshake word reads the Control value, PrAcc among its bits, and writes the word. -/
theorem cycles_controlScan (rd : Bool) {v : ScanWord} (hi : decodeIr s.cfg.codes s.tapSel s.ir = .ok .etapControl)
    (hl : s.cfg.ecrLayout.legal s.cfg.ecrLen = true) (hv : Handshake s.cfg.ecrLayout (v.setWidth s.cfg.ecrLen)) :
    ∃ bits : List Bool, bits.length = s.cfg.ecrLen ∧ bits.getD s.cfg.ecrLayout.prAcc false = s.prAcc ∧
      cycles (Scan.cycles (.dr (scanBits s.cfg.ecrLen v) rd)) s = { s with
        tapState := .rti
        drShift := scanBits s.cfg.ecrLen v
        cpu := (ecrApply (v.setWidth s.cfg.ecrLen) s).cpu
        ecr := ecrFields s.cfg.ecrLayout s.cfg.ecrAccess (v.setWidth s.cfg.ecrLen) s.ecr
        draws := s.draws + 1
        host := { s.host with rx := if rd then s.host.rx ++ bits else s.host.rx } } := by
  have hprAcc : s.cfg.ecrLayout.prAcc < s.cfg.ecrLen := (position_lt_of_legal hl (by simp [EcrLayout.positions])).1
  have hlen : (scanBits s.cfg.ecrLen v).length = s.cfg.ecrLen := by simp [scanBits]
  have hbits : scanBits s.cfg.ecrLen v ≠ [] := List.ne_nil_of_length_pos (by omega)
  let read := s.ecrBits (Config.free s.cfg.ecrLen s.draws)
  have hread : read.length = s.cfg.ecrLen := s.ecrBits_length _
  have hcap : exec .etapControl { s with tapState := .cdr } =
      .next { s with tapState := .cdr, drShift := read, draws := s.draws + 1 } := exec_etapControl_of_cdr rfl
  have hpending : read.getD s.cfg.ecrLayout.prAcc false = s.prAcc := by
    rw [s.ecrBits_getD _ hprAcc, State.ecrBit, if_pos rfl]
  refine ⟨read, hread, hpending, ?_⟩
  rw [cycles_drScan_whole hu hq rd hi hbits (hread.trans hlen.symm) hcap (exec_etapControl_of_handshake rfl rfl hv),
    ecrApply_eq, ecrApply_eq]
  rfl

end

/-! ## A waiting access through the scans -/

/-- The block is at Run-Test/Idle under ETAP, without a mark, with parameters `cfg` and the CPU as in `cpu`. -/
structure Waiting (cfg : Config) (cpu : Cpu) (s : State) : Prop where
  unmarked : s.unmarked = true
  idle : s.tapState = .rti
  tapSel : s.tapSel = .etap
  cfg_eq : s.cfg = cfg
  cpu_eq : s.cpu = cpu

namespace Waiting

section

variable {cfg : Config} {cpu : Cpu} {s : State} (h : Waiting cfg cpu s) (hc : cfg.codes.legal = true)
include h hc

theorem decodeIr_eq {c : IrCode} {i : Instr} (hi : (c, i) ∈ irRows cfg.codes .etap) :
    decodeIr s.cfg.codes s.tapSel c = .ok i := by
  rw [h.cfg_eq, h.tapSel]
  exact decodeIr_of_mem_irRows hc hi

theorem irScan {c : IrCode} {i : Instr} (hi : (c, i) ∈ irRows cfg.codes .etap)
    (hlatch : ∀ u : State, u.cfg = cfg → u.tapState = .uir → exec i u = .next (u.latchIr c)) :
    ∃ t, cycles (Scan.cycles (.ir c)) s = t ∧ Waiting cfg cpu t ∧ t.ir = c ∧ t.ejData = s.ejData ∧ t.host = s.host :=
  ⟨_, cycles_irScan_latch h.unmarked h.idle (h.decodeIr_eq hc hi) fun u hu => hlatch u (hu.trans h.cfg_eq),
    { h with idle := rfl }, rfl, rfl, rfl⟩

theorem selectControl : ∃ t, cycles (Scan.cycles (.ir cfg.codes.etapControl)) s = t ∧ Waiting cfg cpu t ∧
    t.ir = cfg.codes.etapControl ∧ t.ejData = s.ejData ∧ t.host = s.host :=
  h.irScan (i := .etapControl) hc (by simp [irRows]) fun _ hcfg hq => hcfg ▸ tapInstr_of_uir hq

theorem selectData : ∃ t, cycles (Scan.cycles (.ir cfg.codes.etapData)) s = t ∧ Waiting cfg cpu t ∧
    t.ir = cfg.codes.etapData ∧ t.ejData = s.ejData ∧ t.host = s.host :=
  h.irScan (i := .etapData) hc (by simp [irRows]) fun u hcfg hq => hcfg ▸ (exec_etapData u).trans (tapInstr_of_uir hq)

/-- The Data scan puts the word into the Data register. -/
theorem writeData (w : Word) (hir : s.ir = cfg.codes.etapData) : ∃ t, cycles (Scan.cycles (.dr (bitsOf w) false)) s = t ∧
    Waiting cfg cpu t ∧ t.ejData = w ∧ t.host = s.host := by
  have hi : decodeIr s.cfg.codes s.tapSel s.ir = .ok .etapData := h.decodeIr_eq hc (by simp [irRows, hir])
  exact ⟨_, cycles_dataScan h.unmarked h.idle hi, { h with idle := rfl }, rfl, rfl⟩

variable (hl : cfg.ecrLayout.legal cfg.ecrLen = true) (hir : s.ir = cfg.codes.etapControl)
include hl hir

/-- The poll reads whether an access is pending, and leaves the CPU waiting (42 R254). -/
theorem poll : ∃ t bits, cycles (Scan.cycles (.dr (scanBits cfg.ecrLen (pollWord cfg.ecrLayout)) true)) s = t ∧
    Waiting cfg cpu t ∧ t.host.rx = s.host.rx ++ bits ∧ bits.length = cfg.ecrLen ∧
    bits.getD cfg.ecrLayout.prAcc false = cpu.pending.isSome := by
  have hi : decodeIr s.cfg.codes s.tapSel s.ir = .ok .etapControl := h.decodeIr_eq hc (by simp [irRows, hir])
  obtain ⟨hu, hq, hsel, rfl, rfl⟩ := h
  obtain ⟨bits, hlen, hprAcc, e⟩ := cycles_controlScan hu hq true hi hl (pollWord_handshake hl)
  exact ⟨_, bits, e, ⟨hu, rfl, hsel, rfl, ecrApply_cpu_of_prAcc (pollWord_prAcc hl)⟩, rfl, hlen, hprAcc⟩

/-- The release hands the CPU what the Data register holds and ends its access (42 R231, R254). -/
theorem release (ha : cfg.ecrAccess = defaultEcrAccess) {a : Access} (hp : cpu.pending = some a) : ∃ t,
    cycles (Scan.cycles (.dr (scanBits cfg.ecrLen (releaseWord cfg.ecrLayout)) false)) s = t ∧
    t.unmarked = true ∧ t.tapState = .rti ∧ t.cpu.delivered = deliver a s.ejData cpu.delivered ∧ t.cpu.pending = none ∧
    t.ejData = s.ejData ∧ t.ir = cfg.codes.etapControl ∧ t.ecr.probEn = true ∧ t.ecr.probTrap = true ∧
    t.ecr.rocc = false ∧ t.host = s.host := by
  have hi : decodeIr s.cfg.codes s.tapSel s.ir = .ok .etapControl := h.decodeIr_eq hc (by simp [irRows, hir])
  obtain ⟨hu, hq, -, rfl, rfl⟩ := h
  have hv := releaseWord_handshake hl
  have hcpu := ecrApply_cpu_of_not_prAcc (s := s) (.inl (by rw [ha]; rfl)) (releaseWord_prAcc hl)
  obtain ⟨_, -, -, e⟩ := cycles_controlScan hu hq false hi hl hv
  obtain ⟨hrocc, hprobEn, hprobTrap, -⟩ := ecrFields_of_handshake hv s.ecr
  refine ⟨_, e, hu, rfl, ?_, ?_, rfl, hir, ?_, ?_, ?_, rfl⟩ <;> dsimp only
  · rw [hcpu, completeAccess_delivered hp]
  · rw [hcpu, completeAccess_pending]
  · rwa [ha]
  · rwa [ha]
  · rwa [ha]

end

end Waiting

/-- Settles O33: five scans keep the access waiting, the poll among them reading PrAcc = 1; the sixth completes it. -/
theorem injectedWordIsDelivered : Obligations.InjectedWordIsDelivered := by
  intro s w a hu hq hsel hc hl ha hp hkind c t
  have h0 : Waiting s.cfg s.cpu s := ⟨hu, hq, hsel, rfl, rfl⟩
  obtain ⟨s1, e1, h1, hir1, -, hhost1⟩ := h0.selectControl hc
  obtain ⟨s2, bits, e2, h2, hrx2, hlen, hprAcc⟩ := h1.poll hc hl hir1
  obtain ⟨s3, e3, h3, hir3, -, hhost3⟩ := h2.selectData hc
  obtain ⟨s4, e4, h4, hdata4, hhost4⟩ := h3.writeData hc w hir3
  obtain ⟨s5, e5, h5, hir5, hdata5, hhost5⟩ := h4.selectControl hc
  obtain ⟨s6, e6, hu6, hq6, hdel, hpend, hdata6, hir6, hprobEn, hprobTrap, hrocc, hhost6⟩ := h5.release hc hl hir5 ha hp
  have run2 := (cycles_append_of_unmarked hu e1 h1.unmarked).trans e2
  have run3 := (cycles_append_of_unmarked hu run2 h2.unmarked).trans e3
  have run4 := (cycles_append_of_unmarked hu run3 h3.unmarked).trans e4
  have run5 := (cycles_append_of_unmarked hu run4 h4.unmarked).trans e5
  have run6 : t = s6 := (cycles_append_of_unmarked hu run5 h5.unmarked).trans e6
  have hdata : s5.ejData = w := hdata5.trans hdata4
  have hword : deliver a w s.cpu.delivered = s.cpu.delivered ++ [w] := by
    unfold deliver
    cases hk : a.kind with
    | store => exact absurd hk hkind
    | fetch | load => rfl
  have hrx : s6.host.rx = s.host.rx ++ bits := by rw [hhost6, hhost5, hhost4, hhost3, hrx2, hhost1]
  rw [run6]
  exact ⟨hu6, hq6, by rw [hdel, hdata, hword], hpend, hdata6.trans hdata, hir6, hprobEn, hprobTrap, hrocc, bits, hrx, hlen,
    by rw [hprAcc, hp]; rfl⟩

end Sys2Proof.Machine
end

section
/-! SUPPORT. The host's tasks (43_host_sequences.md): what the step at a task answers, the precondition of each operation (43 R285 to R291, R320), and
the comparison of the CRCs (43 R326). -/

namespace Sys2Proof.Machine

/-! ## The step at a task -/

/-- The host's next task is done in one step, from the state in which it is off the list (20 R83). -/
theorem step_of_task {t : HostTask} {rest : List HostTask} {s : State} (h : AboutTo t rest s) :
    step s = .next (runTask t (popped rest s)) := by
  obtain ⟨hfaults, hrefused, hagenda, htodo⟩ := h
  simp only [step_unmarked hfaults hrefused, nextTurn, hagenda, hostTurn, htodo]
  rfl

theorem unmarked_of_task {t : HostTask} {rest : List HostTask} {s : State} (h : AboutTo t rest s) :
    s.unmarked = true := by
  obtain ⟨hfaults, hrefused, -, -⟩ := h
  exact unmarked_iff.mpr ⟨hfaults, hrefused⟩

theorem push_popped (ts rest : List HostTask) (s : State) : (popped rest s).push ts = popped (ts ++ rest) s := rfl

section

variable {o : HostOp} {rest : List HostTask} {s : State} (h : AboutTo (.op o) rest s)
include h

/-- An operation that is refused leaves the mark, and is off the list (60 R371). -/
theorem step_of_refused_op {r : Refusal} (hr : runOp o (popped rest s) = (popped rest s).refuse r) :
    step s = .next { popped rest s with refused := some r } := by
  rw [step_of_task h, runTask, hr]
  rfl

/-- An operation that expands leaves its tasks to do before the rest. -/
theorem step_of_expanded_op {ts : List HostTask} (hts : runOp o (popped rest s) = (popped rest s).push ts) :
    step s = .next (popped (ts ++ rest) s) := by
  rw [step_of_task h, runTask, hts, push_popped]

end

/-! ## Preconditions -/

/-- The precondition of an operation: the selection a command, an injection or a FastData transfer needs, and the executive. -/
def OpPrecondition (s : State) : HostOp → Prop
  | .mchpCommand _ => s.host.hostSel = some .mtap ∧ s.host.hostIr = some s.cfg.codes.mtapCommand
  | .xferInstruction _ | .getPeResponse => s.host.hostSel = some .etap
  | .fastdataWrite _ | .fastdataRead =>
    s.host.hostIr = some s.cfg.codes.etapFastdata ∧ s.host.hostSel = some .etap
  | .peCommand .. | .peRead .. | .peWordProgram .. | .peDoubleWordProgram .. | .peQuadWordProgram .. | .peRowProgram ..
  | .peGetCrc .. | .programBlock .. | .verifyBlock .. | .readBlock .. => s.host.useExecutive = true
  | _ => True

section

variable {s : State}

theorem peAligned_of_no_executive (h : s.host.useExecutive ≠ true) (align : Nat) (addr : Word) (ts : List HostTask) :
    peAligned align addr ts s = s.refuse .hostPrecondition := by
  simp [peAligned, h]

theorem peAligned_of_misaligned (h : s.host.useExecutive = true) {align : Nat} {addr : Word}
    (ha : addr.toNat % align ≠ 0) (ts : List HostTask) : peAligned align addr ts s = s.refuse .misaligned := by
  simp [peAligned, h, ha]

theorem runOp_of_not_precondition {o : HostOp} (h : ¬ OpPrecondition s o) :
    runOp o s = s.refuse .hostPrecondition := by
  cases o with
  | mchpCommand | xferInstruction | getPeResponse | fastdataWrite | fastdataRead | peCommand | peGetCrc | programBlock
  | verifyBlock | readBlock => exact if_neg h
  | peRead | peWordProgram | peDoubleWordProgram | peQuadWordProgram | peRowProgram =>
    exact peAligned_of_no_executive h _ _ _
  | _ => exact absurd trivial h

end

/-- Settles O48: an unmet precondition first, then the length of a scan, the family and the alignment. -/
theorem hostOperationsRefuseBeforeAnyScan : Obligations.HostOperationsRefuseBeforeAnyScan := by
  intro s rest o h
  refine ⟨fun hpre => step_of_refused_op h (runOp_of_not_precondition ?_), fun lead n v rd ho hn => ?tooLong,
    fun ho hk => ?loader, fun hexec => ⟨fun a w ho ha => ?word, fun a w x ho ha => ?doubleWord,
      fun a w x y z ho ha => ?quadWord⟩⟩
  · obtain ⟨⟨_, rfl⟩, hsel⟩ | ⟨⟨_, rfl⟩ | rfl, hsel⟩ | ⟨⟨_, rfl⟩ | rfl, hsel⟩ | ⟨hpe, hexec⟩ := hpre
    · exact not_and_or.mpr hsel
    · exact hsel
    · exact hsel
    · exact not_and_or.mpr hsel.symm
    · exact not_and_or.mpr hsel.symm
    · have hno : (popped rest s).host.useExecutive ≠ true := by simp [popped, hexec]
      obtain ⟨_, _, _, _, rfl⟩ | ⟨_, _, rfl⟩ | ⟨_, _, rfl⟩ | ⟨_, _, _, rfl⟩ | ⟨_, _, _, _, _, rfl⟩ | ⟨_, _, rfl⟩ |
        ⟨_, _, rfl⟩ | ⟨_, _, rfl⟩ | ⟨_, _, rfl⟩ | ⟨_, _, rfl⟩ := hpe <;> exact hno
  all_goals
    subst ho
    refine step_of_refused_op h ?_
  case tooLong => exact if_pos hn
  case loader => exact if_pos hk
  case word | doubleWord | quadWord => exact peAligned_of_misaligned (s := popped rest s) hexec ha _

/-! ## The comparison of the CRCs -/

section

variable {s : State}

theorem runTask_compareCrc_of_eq (h : lo16 (s.host.resp.getD 1 0) = s.crc) : runTask .compareCrc s = s := if_pos h

theorem runTask_compareCrc_of_ne (h : lo16 (s.host.resp.getD 1 0) ≠ s.crc) : runTask .compareCrc s =
    match s.cfg.verifyPolicy with
    | .strict => s.fatal .crcMismatch
    | .warn => s.logged (.crcMismatch (lo16 (s.host.resp.getD 1 0)) s.crc) :=
  if_neg h

end

/-- Settles O50. -/
theorem crcMismatchFollowsThePolicy : Obligations.CrcMismatchFollowsThePolicy := by
  intro s rest r0 r1 more h hresp
  have hremote : lo16 ((popped rest s).host.resp.getD 1 0) = r1.extractLsb' 0 16 := by simp [popped, hresp, lo16]
  rw [step_of_task h, ← hremote]
  refine ⟨fun heq => ?_, fun hne hpol => ?_, fun hne hpol => ?_⟩
  · rw [runTask_compareCrc_of_eq heq]
  all_goals
    replace hpol : (popped rest s).cfg.verifyPolicy = _ := hpol
    rw [runTask_compareCrc_of_ne hne, hpol]
  · exact ⟨_, rfl, rfl, rfl⟩
  · exact ⟨_, rfl, rfl, rfl, rfl⟩

end Sys2Proof.Machine
end

section
/-! SUPPORT. The words of the loader and the rows of a block (43_host_sequences.md R310, R328), one quadruple and one row at a time. -/

namespace Sys2Proof.Machine

/-! ## The loader's quadruples -/

/-- The four injections that store one pair of halfwords. -/
def loaderQuad (h l : Half) : List HostTask :=
  [.op (.xferInstruction (luiA2 h)), .op (.xferInstruction (oriA2 l)), .op (.xferInstruction swA2),
    .op (.xferInstruction addiuA0)]

theorem loaderQuads_pair (h l : Half) (rest : List Half) :
    loaderQuads (h :: l :: rest) = loaderQuad h l ++ loaderQuads rest := rfl

/-- A halfword without a partner counts for nothing. -/
theorem loaderQuads_length (l : List Half) : (loaderQuads l).length = 4 * (l.length / 2) := by
  induction l using loaderQuads.induct with
  | case1 h l rest ih =>
    rw [loaderQuads_pair, List.length_append, ih]
    simp only [loaderQuad, List.length_cons, List.length_nil]
    omega
  | case2 => simp [loaderQuads]
  | case3 => rfl

/-- After `k` quadruples comes that of halfwords `2 k` and `2 k + 1`. -/
theorem loaderQuads_drop {l : List Half} {k : Nat} (h : 2 * k + 1 < l.length) :
    ∃ more, (loaderQuads l).drop (4 * k) = loaderQuad (l.getD (2 * k) 0) (l.getD (2 * k + 1) 0) ++ more := by
  induction k generalizing l with
  | zero =>
    match l, h with
    | a :: b :: rest, _ => exact ⟨loaderQuads rest, rfl⟩
  | succ k ih =>
    match l, h with
    | a :: b :: rest, h =>
      obtain ⟨more, e⟩ := ih (l := rest) (by simp only [List.length_cons] at h; omega)
      exact ⟨more, e⟩

/-- Settles O51. -/
theorem loaderTableGivesHalfAsManyQuadruples : Obligations.LoaderTableGivesHalfAsManyQuadruples := by
  intro l _
  refine ⟨loaderQuads_length l, fun k hk => ?_⟩
  obtain ⟨more, e⟩ := loaderQuads_drop hk
  have entry (j : Nat) : (loaderQuads l)[4 * k + j]? =
      (loaderQuad (l.getD (2 * k) 0) (l.getD (2 * k + 1) 0) ++ more)[j]? := by
    rw [← e, List.getElem?_drop]
  exact ⟨entry 0, entry 1, entry 2, entry 3⟩

/-! ## The rows of a block -/

/-- The rows of a block need no more fuel than the block has words. -/
theorem rowsOf_of_length_le {k : Nat} (hk : 0 < k) {n m : Nat} {ws : List Word} (hn : ws.length ≤ n)
    (hm : ws.length ≤ m) : rowsOf k n ws = rowsOf k m ws := by
  induction n generalizing m ws with
  | zero =>
    obtain rfl := List.length_eq_zero_iff.mp (Nat.le_zero.mp hn)
    cases m <;> rfl
  | succ n ih =>
    match ws, m with
    | [], 0 | [], _ + 1 => rfl
    | w :: ws, m + 1 =>
      have hlen : ((w :: ws).drop k).length ≤ ws.length := by simp only [List.length_drop, List.length_cons]; omega
      simp only [List.length_cons] at hn hm
      rw [rowsOf, rowsOf, ih (m := m) (hlen.trans (by omega)) (hlen.trans (by omega))]

/-- What a block of words issues, in rows of `k` words. -/
def blockTasks (k : Nat) (addr : Word) (words : List Word) : List HostTask :=
  rowTasks k addr (rowsOf k words.length words)

theorem runOp_programBlock {s : State} (h : s.host.useExecutive = true) (addr : Word) (words : List Word) :
    runOp (.programBlock addr words) s = s.push (blockTasks s.cfg.rowWords addr words) := if_pos h

/-- The first row of a block is sent unless it is erased, and the rest of the block follows at the address after it. -/
theorem blockTasks_row {k : Nat} (hk : 0 < k) (addr : Word) {row : List Word} (more : List Word)
    (hrow : row.length = k) : blockTasks k addr (row ++ more) =
      (if row.all (· == 0xFFFFFFFF) then [] else [.op (.peRowProgram addr row)]) ++
        blockTasks k (addr + BitVec.ofNat 32 (4 * k)) more := by
  have hrows : rowsOf k (row ++ more).length (row ++ more) = row :: rowsOf k more.length more := by
    obtain ⟨w, ws, rfl⟩ := List.exists_cons_of_length_pos (hrow.symm ▸ hk)
    have hfuel : more.length ≤ (ws ++ more).length := by simp
    rw [List.cons_append, List.length_cons, rowsOf, ← List.cons_append, List.take_left' hrow, List.drop_left' hrow,
      rowsOf_of_length_le hk hfuel le_rfl]
  rw [blockTasks, hrows]
  rfl

theorem blockTasks_erased (k : Nat) (addr : Word) (n : Nat) :
    blockTasks k addr (List.replicate (n * k) 0xFFFFFFFF) = [] := by
  obtain rfl | hk := Nat.eq_zero_or_pos k
  · rfl
  induction n generalizing addr with
  | zero => rw [Nat.zero_mul]; rfl
  | succ n ih =>
    rw [Nat.succ_mul, Nat.add_comm, List.replicate_add, blockTasks_row hk _ _ List.length_replicate, ih]
    simp

/-- Settles O52: a block is its first row and the block of the remaining words. -/
theorem erasedBlockIssuesNothing : Obligations.ErasedBlockIssuesNothing := by
  have issues {s : State} {rest : List HostTask} {addr : Word} {words : List Word}
      (h : AboutTo (.op (.programBlock addr words)) rest s) (hexec : s.host.useExecutive = true) :
      step s = .next (popped (blockTasks s.cfg.rowWords addr words ++ rest) s) :=
    step_of_expanded_op h (runOp_programBlock (s := popped rest s) hexec addr words)
  refine ⟨fun s rest addr n h hexec => ?_, fun s rest addr row more h hexec hk hrow => ?_⟩
  · rw [issues h hexec, blockTasks_erased, List.nil_append]
  · refine ⟨blockTasks s.cfg.rowWords (addr + BitVec.ofNat 32 (4 * s.cfg.rowWords)) more, ?_, fun hsent => ?_,
      fun herased => ?_⟩
    · obtain ⟨hfaults, hrefused, hagenda, -⟩ := h
      exact issues (s := popped (.op (.programBlock _ more) :: rest) s) ⟨hfaults, hrefused, hagenda, rfl⟩ hexec
    · rw [issues h hexec, blockTasks_row hk addr more hrow, if_neg (by simpa using hsent)]
      rfl
    · rw [issues h hexec, blockTasks_row hk addr more hrow, if_pos (by simpa using herased)]
      rfl

end Sys2Proof.Machine
end

section
/-! SUPPORT. What a TCK cycle leaves of the host's session (20_memory.md R83): it may change the bits gathered so far, and nothing else. -/

namespace Sys2Proof.Machine

/-- From `s` to `t` the host's session changes at most in the bits of the scan under way. -/
def GathersOnly (s t : State) : Prop := ∃ rx, t.host = { s.host with rx := rx }

theorem GathersOnly.of_host {s t : State} (h : t.host = s.host) : GathersOnly s t := ⟨s.host.rx, h⟩

theorem GathersOnly.trans {s t u : State} (h : GathersOnly s t) (h' : GathersOnly t u) : GathersOnly s u := by
  obtain ⟨_, e⟩ := h
  obtain ⟨rx, e'⟩ := h'
  exact ⟨rx, by rw [e', e]⟩

/-! ## Update-DR -/

theorem completeAccess_host (s : State) : (completeAccess s).host = s.host := by
  obtain ⟨-, e⟩ | ⟨a, -, e⟩ := completeAccess_cases s <;> rw [e]
  rfl

theorem ecrApply_host {n : Nat} (v : BitVec n) (s : State) : (ecrApply v s).host = s.host := by
  obtain ⟨u, rfl | rfl, e⟩ := ecrApply_cases v s <;> rw [e]
  · rfl
  · exact completeAccess_host s

theorem fastdataUpdate_host (s : State) : (fastdataUpdate s).host = s.host := by
  unfold fastdataUpdate
  split_ifs
  · obtain ⟨-, e⟩ | ⟨u, hu, e⟩ := fastdataTransfer_cases (fastdataParts s.drShift).2 s <;> rw [e]
    rw [completeAccess_host]
    obtain rfl | rfl := hu <;> rfl
  · rfl

theorem allUpdate_host {s t : State} (h : allUpdate s = .next t) : t.host = s.host := by
  unfold allUpdate at h
  dsimp only at h
  split at h
  · cases h
  · split_ifs at h <;> cases h
    · exact ecrApply_host _ (s.bump.setEjData _)
    · exact ecrApply_host _ s.bump

/-- A command touches the session at most in its reply. -/
theorem mchpExec_gathersOnly {s t : State} (h : mchpExec s = .next t) : GathersOnly s t := by
  cases hd : decodeMchp s.cfg.codes (ofBits 8 s.drShift) with
  | error e => cases (mchpExec_of_error hd).symm.trans h
  | ok i =>
    have hi : encode s.cfg.codes i = .mchp (ofBits 8 s.drShift) :=
      (encode_of_rowOf (t := .mtap) (w := .mchp _) ⟨rfl, decodeMchp_mem hd⟩).1
    obtain ⟨_, _, _, _, rx, _, rfl, -⟩ := commandsLeaveTheTapAlone i s t _ hi ((mchpExec_of_ok hd).symm.trans h)
    exact ⟨rx, rfl⟩

theorem drUpdate_gathersOnly {i : Instr} {s t : State} (h : drUpdate i s = .next t) : GathersOnly s t := by
  cases i with
  | mtapCommand => exact mchpExec_gathersOnly h
  | etapControl =>
    obtain ⟨-, rfl⟩ := ecrWrite_next h
    exact .of_host (ecrApply_host _ s)
  | etapAll => exact .of_host (allUpdate_host h)
  | etapFastdata =>
    cases h
    exact .of_host (fastdataUpdate_host s)
  | _ =>
    cases h
    exact .of_host rfl

/-! ## Cycles -/

theorem exec_gathersOnly {i : Instr} {v : IrCode} {s t : State} (hv : encode s.cfg.codes i = .ir v)
    (h : exec i s = .next t) : GathersOnly s t := by
  obtain ⟨-, rfl⟩ | ⟨-, rfl⟩ | ⟨-, hupd⟩ | ⟨-, -, -, rfl⟩ := tapInstr_next (tapInstr_of_exec hv h)
  · exact .of_host (by rw [irAction_eq]; rfl)
  · obtain ⟨_, _, _, e⟩ := drCapture_captureOnly i s
    exact .of_host (by rw [e])
  · exact drUpdate_gathersOnly hupd
  · exact .of_host rfl

theorem tapAction_gathersOnly {tdi : Bool} {s t : State} (h : tapAction tdi s = .next t) : GathersOnly s t := by
  cases hq : s.tapState <;> simp only [tapAction, hq] at h
  case uir | cdr | udr =>
    obtain ⟨i, hi, hx⟩ := runCode_next h
    exact exec_gathersOnly (encode_of_decodeIr hi) hx
  all_goals
    cases h
    exact .of_host rfl

theorem tck_gathersOnly (tms tdi : Bool) (s : State) : GathersOnly s (tck tms tdi s) := by
  obtain ⟨t, ht, e⟩ | ⟨f, -, e⟩ | ⟨r, -, e | e⟩ := tck_cases tms tdi s <;> rw [e]
  · exact (tapAction_gathersOnly ht :)
  all_goals exact .of_host rfl

theorem recordTdo_gathersOnly (b : Option Bool) (s : State) : GathersOnly s (recordTdo b s) := by
  obtain ⟨rx, e | e⟩ := recordTdo_cases b s <;> rw [e] <;> exact ⟨rx, rfl⟩

theorem cycle_gathersOnly (c : Cycle) (s : State) : GathersOnly s (cycle c s) := by
  obtain e | e := cycle_cases c s <;> rw [e]
  · exact tck_gathersOnly _ _ s
  · exact (tck_gathersOnly _ _ s).trans (recordTdo_gathersOnly _ _)

/-! ## The parameters -/

theorem recordTdo_cfg (b : Option Bool) (s : State) : (recordTdo b s).cfg = s.cfg := by
  obtain ⟨rx, e | e⟩ := recordTdo_cases b s <;> rw [e] <;> rfl

theorem tck_cfg (tms tdi : Bool) (s : State) : (tck tms tdi s).cfg = s.cfg := (tck_blockStep tms tdi s).cfg

theorem cycle_cfg (c : Cycle) (s : State) : (cycle c s).cfg = s.cfg := by
  obtain e | e := cycle_cases c s <;> rw [e]
  · exact tck_cfg _ _ s
  · exact (recordTdo_cfg _ _).trans (tck_cfg _ _ s)

/-! ## The other agents -/

theorem cpuTurn_host (m : CpuMove) (s : State) : (cpuTurn m s).host = s.host := by
  obtain e | ⟨a, -, -, -, e⟩ | ⟨a, -, e⟩ | ⟨-, -, e⟩ | ⟨-, e⟩ := cpuTurn_cases m s <;> rw [e] <;> rfl

theorem flashTurn_host (m : FlashMove) (s : State) : (flashTurn m s).host = s.host := by
  obtain ⟨_, _, _, e⟩ := flashTurn_cases m s
  rw [e]

end Sys2Proof.Machine
end

section
/-! SUPPORT. The PrAcc loop (43_host_sequences.md R287): its steps, the reads it can still make under any agenda, and the poll that reads the Control
value of a CPU without an access. -/

namespace Sys2Proof.Machine

/-! ## Runs -/

/-- A run that answers a next state begins with a step that does. -/
theorem core_run_succ_next {n : Nat} {s t : State} (h : Host.Core.run Sys2Proof.core (n + 1) s = .next t) :
    ∃ u, step s = .next u ∧ Host.Core.run Sys2Proof.core n u = .next t := by
  cases hstep : step s with
  | next u => exact ⟨u, rfl, (core_run_succ hstep).symm.trans h⟩
  | fault | refused => simp [Host.Core.run, Sys2Proof.core, hstep] at h

theorem core_run_add {m n : Nat} {s t : State} (h : Host.Core.run Sys2Proof.core m s = .next t) :
    Host.Core.run Sys2Proof.core (m + n) s = Host.Core.run Sys2Proof.core n t := by
  induction m generalizing s with
  | zero =>
    cases h
    rw [Nat.zero_add]
  | succ m ih =>
    obtain ⟨u, hstep, hrest⟩ := core_run_succ_next h
    rw [Nat.add_right_comm, core_run_succ hstep, ih hrest]

/-! ## Its steps -/

section

variable {s : State} {i : Nat}

/-- The Control scan of one poll. -/
def pollScan (cfg : Config) : HostOp := .dr cfg.ecrLen (pollWord cfg.ecrLayout) true

theorem runTask_poll_last (h : i = s.cfg.pollMax) : runTask (.poll i) s = s.fatal .prAccNotSet := if_pos h

theorem runTask_poll_of_lt (h : i < s.cfg.pollMax) :
    runTask (.poll i) s = s.push [.op (pollScan s.cfg), .pollCheck (i + 1)] :=
  if_neg h.ne

theorem runTask_pollCheck_set (h : s.host.result.getD s.cfg.ecrLayout.prAcc false = true) :
    runTask (.pollCheck i) s = s := if_pos h

theorem runTask_pollCheck_clear (h : s.host.result.getD s.cfg.ecrLayout.prAcc false = false) :
    runTask (.pollCheck i) s = s.push [.poll i] := if_neg (by rw [h]; decide)

variable {rest : List HostTask}

theorem step_poll_last (h : AboutTo (.poll i) rest s) (hi : i = s.cfg.pollMax) :
    step s = .next ((popped rest s).fatal .prAccNotSet) := by
  rw [step_of_task h, runTask_poll_last (s := popped rest s) hi]

theorem step_poll_of_lt (h : AboutTo (.poll i) rest s) (hi : i < s.cfg.pollMax) :
    step s = .next (popped (.op (pollScan s.cfg) :: .pollCheck (i + 1) :: rest) s) := by
  rw [step_of_task h, runTask_poll_of_lt (s := popped rest s) hi]
  rfl

theorem step_pollCheck_set (h : AboutTo (.pollCheck i) rest s)
    (hr : s.host.result.getD s.cfg.ecrLayout.prAcc false = true) : step s = .next (popped rest s) := by
  rw [step_of_task h, runTask_pollCheck_set (s := popped rest s) hr]

theorem step_pollCheck_clear (h : AboutTo (.pollCheck i) rest s)
    (hr : s.host.result.getD s.cfg.ecrLayout.prAcc false = false) :
    step s = .next (popped (.poll i :: rest) s) := by
  rw [step_of_task h, runTask_pollCheck_clear (s := popped rest s) hr]
  rfl

end

/-! ## Its scans -/

/-- `s` at the start of a scan: the reply buffer is any value, and no bit is gathered. -/
def scanStarted (s : State) : State :=
  { s with draws := s.draws + 1, host := { s.host with reply := .fresh s.draws, rx := [] } }

theorem runOp_scan_of_le {n : Nat} (h : n ≤ 64) (lead : List Bool) (v : ScanWord) (rd : Bool) (rest : List HostTask)
    (s : State) : runOp (.scan lead n v rd) (popped rest s) =
      popped (scanTasks lead n v rd ++ rest) (scanStarted s) := by
  rw [runOp, if_neg h.not_gt, ← push_popped]
  rfl

theorem runOp_scan_of_gt {n : Nat} (h : 64 < n) (lead : List Bool) (v : ScanWord) (rd : Bool) (s : State) :
    runOp (.scan lead n v rd) s = s.refuse .scanTooLong := if_pos h

theorem runTask_endScan (s : State) : runTask .endScan s = { s with
    host := { s.host with
      result := s.host.rx
      results := s.host.results ++ [s.host.rx]
      reply := s.host.reply.write (replyBytes s.host.rx) } } := rfl

/-! ## The reads it can still make -/

/-- The tasks that the loop consists of, and the close that an end of the session leaves; a counter stays within `POLL_MAX`. -/
def LoopTask (pollMax : Nat) : HostTask → Prop
  | .poll i | .pollCheck i => i ≤ pollMax
  | .op (.dr ..) | .op (.scan ..) | .op .sessionClose | .cycle _ | .endScan => True
  | _ => False

/-- The reads that a task of the loop can lead to. -/
def readsDue (pollMax : Nat) : HostTask → Nat
  | .poll i | .pollCheck i => pollMax - i
  | .op (.dr ..) | .op (.scan ..) | .endScan => 1
  | _ => 0

/-- The reads that a list of tasks can lead to. -/
def allReadsDue (pollMax : Nat) (ts : List HostTask) : Nat := (ts.map (readsDue pollMax)).sum

/-- Only the loop is left to do, and with every read it can still make there are at most `bound` results. -/
structure PollLoop (bound : Nat) (s : State) : Prop where
  tasks : ∀ t ∈ s.host.todo, LoopTask s.cfg.pollMax t
  reads : s.host.results.length + allReadsDue s.cfg.pollMax s.host.todo ≤ bound

theorem allReadsDue_append (m : Nat) (ts us : List HostTask) :
    allReadsDue m (ts ++ us) = allReadsDue m ts + allReadsDue m us := by
  simp [allReadsDue]

theorem scanTasks_loopTask (m : Nat) (lead : List Bool) (n : Nat) (v : ScanWord) (rd : Bool) :
    ∀ t ∈ scanTasks lead n v rd, LoopTask m t := by
  intro t ht
  obtain hcycle | hend := List.mem_append.mp ht
  · obtain ⟨c, -, rfl⟩ := List.mem_map.mp hcycle
    trivial
  · cases rd with
    | false => cases hend
    | true =>
      obtain rfl := List.mem_singleton.mp hend
      trivial

/-- A scan makes one read at most. -/
theorem scanTasks_readsDue (m : Nat) (lead : List Bool) (n : Nat) (v : ScanWord) (rd : Bool) :
    allReadsDue m (scanTasks lead n v rd) ≤ 1 := by
  have hcycles (cs : List Cycle) : allReadsDue m (cs.map .cycle) = 0 := List.sum_eq_zero (by simp [readsDue])
  rw [scanTasks, allReadsDue_append, hcycles]
  cases rd <;> simp [allReadsDue, readsDue]

namespace PollLoop

variable {b : Nat} {s t : State}

theorem of_kept (h : PollLoop b s) (hcfg : t.cfg = s.cfg) (hhost : GathersOnly s t) : PollLoop b t := by
  obtain ⟨_, e⟩ := hhost
  constructor <;> rw [hcfg, e]
  · exact h.tasks
  · exact h.reads

/-- A task of the loop done: the reads made and those its new tasks can make are no more than those the task could make. -/
theorem of_done {task : HostTask} {rest new : List HostTask} (h : PollLoop b s) (hs : s.host.todo = task :: rest)
    (hcfg : t.cfg = s.cfg) (htodo : t.host.todo = new ++ rest) (hnew : ∀ x ∈ new, LoopTask s.cfg.pollMax x)
    (hreads : t.host.results.length + allReadsDue s.cfg.pollMax new ≤
      s.host.results.length + readsDue s.cfg.pollMax task) : PollLoop b t := by
  obtain ⟨htasks, hbound⟩ := h
  rw [hs] at htasks hbound
  constructor <;> rw [hcfg, htodo]
  · intro x hx
    exact (List.mem_append.mp hx).elim (hnew x) fun hrest => htasks x (List.mem_cons_of_mem _ hrest)
  · rw [← List.singleton_append, allReadsDue_append] at hbound
    rw [allReadsDue_append]
    simp only [allReadsDue, List.map_cons, List.map_nil, List.sum_cons, List.sum_nil] at hbound hreads ⊢
    omega

/-- A fatal diagnostic leaves no read to make. -/
theorem fatal (h : PollLoop b s) (e : Diagnostic) : PollLoop b (s.fatal e) := by
  have hresults : s.host.results.length ≤ b := le_trans (Nat.le_add_right _ _) h.reads
  constructor <;> rw [State.fatal_host] <;> cases s.host.isOpen
  · exact nofun
  · simp [LoopTask]
  · exact hresults
  · exact hresults

end PollLoop

section

variable {b : Nat} {s : State} (h : PollLoop b s)
include h

theorem popped_pollLoop {task : HostTask} {rest : List HostTask} (hs : s.host.todo = task :: rest) :
    PollLoop b (popped rest s) :=
  h.of_done hs (new := []) rfl rfl nofun (Nat.le_add_right _ _)

/-- Task by task: only a poll below the bound, a scan and its end have to do with reads. -/
theorem runTask_pollLoop {task : HostTask} {rest : List HostTask} (hs : s.host.todo = task :: rest) :
    PollLoop b (runTask task (popped rest s)) := by
  have hpop := popped_pollLoop h hs
  have htask : LoopTask s.cfg.pollMax task := h.tasks task (by simp [hs])
  match task, htask with
  | .poll i, hi =>
    obtain hi | hi := Nat.eq_or_lt_of_le hi
    · rw [runTask_poll_last (s := popped rest s) hi]
      exact hpop.fatal _
    · rw [runTask_poll_of_lt (s := popped rest s) hi, push_popped]
      refine h.of_done hs rfl rfl (by simpa [LoopTask, pollScan] using hi) (Nat.add_le_add_left ?_ _)
      simp only [allReadsDue, readsDue, pollScan, List.map_cons, List.map_nil, List.sum_cons, List.sum_nil]
      omega
  | .pollCheck i, hi =>
    cases hr : s.host.result.getD s.cfg.ecrLayout.prAcc false with
    | true => rwa [runTask_pollCheck_set (s := popped rest s) hr]
    | false =>
      rw [runTask_pollCheck_clear (s := popped rest s) hr, push_popped]
      exact h.of_done hs rfl rfl (by simpa [LoopTask] using hi) le_rfl
  | .op (.dr n v rd), _ => exact h.of_done hs (new := [.op (.scan [] n v rd)]) rfl rfl (by simp [LoopTask]) le_rfl
  | .op (.scan lead n v rd), _ =>
    rw [runTask]
    obtain hn | hn := Nat.lt_or_ge 64 n
    · rw [runOp_scan_of_gt hn]
      exact hpop.of_kept rfl (.of_host rfl)
    · rw [runOp_scan_of_le hn]
      exact h.of_done hs rfl rfl (scanTasks_loopTask _ lead n v rd)
        (Nat.add_le_add_left (scanTasks_readsDue _ lead n v rd) _)
  | .op .sessionClose, _ =>
    rw [runTask, runOp]
    split_ifs
    · exact ⟨hpop.tasks, hpop.reads⟩
    · exact hpop
  | .cycle c, _ => exact hpop.of_kept (cycle_cfg c _) (cycle_gathersOnly c _)
  | .endScan, _ =>
    rw [runTask_endScan]
    exact h.of_done hs (new := []) rfl rfl nofun (by simp [popped, allReadsDue, readsDue])

theorem hostTurn_pollLoop : PollLoop b (hostTurn s) := by
  unfold hostTurn
  split
  · exact h
  · next task rest hs => exact runTask_pollLoop h hs

theorem garbledTurn_pollLoop : PollLoop b (garbledTurn s) := by
  unfold garbledTurn
  split
  · next c rest hs =>
    have htck := (popped_pollLoop h hs).of_kept (tck_cfg c.tms c.tdi _) (tck_gathersOnly c.tms c.tdi _)
    dsimp only
    split_ifs
    · have hrecord := htck.of_kept (recordTdo_cfg none _) (recordTdo_gathersOnly none _)
      exact ⟨hrecord.tasks, hrecord.reads⟩
    · exact htck
    · exact hostTurn_pollLoop h
  · exact hostTurn_pollLoop h

theorem transportFails_pollLoop : PollLoop b (transportFails s) := by
  obtain ⟨e, -⟩ | ⟨e, -⟩ := transportFails_cases s <;> rw [e]
  · exact h
  · exact h.fatal _

theorem nextTurn_pollLoop : PollLoop b (nextTurn s) := by
  unfold nextTurn
  split
  · exact hostTurn_pollLoop h
  · next turn rest _ =>
    have hs : PollLoop b { s with agenda := rest } := h.of_kept rfl (.of_host rfl)
    cases turn with
    | host => exact hostTurn_pollLoop hs
    | cpu m => exact hs.of_kept (cpuTurn_blockStep m _).cfg (.of_host (cpuTurn_host m _))
    | flash m => exact hs.of_kept (flashTurn_blockStep m _).cfg (.of_host (flashTurn_host m _))
    | hostGarbled => exact garbledTurn_pollLoop hs
    | transportFail => exact transportFails_pollLoop hs
    | powerOn => exact hs.of_kept rfl (.of_host rfl)

end

theorem PollLoop.run {b n : Nat} {s t : State} (h : PollLoop b s)
    (hrun : Host.Core.run Sys2Proof.core n s = .next t) : PollLoop b t := by
  induction n generalizing s with
  | zero =>
    cases hrun
    exact h
  | succ n ih =>
    obtain ⟨u, hstep, hrest⟩ := core_run_succ_next hrun
    obtain ⟨-, -, rfl⟩ := step_next hstep
    exact ih (nextTurn_pollLoop h) hrest

/-- Under every agenda the loop makes `POLL_MAX` reads at most. -/
theorem results_le_of_poll_run {s t : State} {n : Nat} (hs : s.host.todo = [.poll 0])
    (hrun : Host.Core.run Sys2Proof.core n s = .next t) :
    t.host.results.length ≤ s.host.results.length + s.cfg.pollMax := by
  have h : PollLoop (s.host.results.length + s.cfg.pollMax) s :=
    ⟨by simp [hs, LoopTask], by simp [hs, allReadsDue, readsDue]⟩
  exact le_trans (Nat.le_add_right _ _) (h.run hrun).reads

/-! ## The poll of a CPU without an access -/

/-- A legal layout is that of a register which one scan of the host can carry (40 R160). -/
theorem scanLength_le_of_legal {n : Nat} {l : EcrLayout} (h : l.legal n = true) : n ≤ 64 := by
  simp only [EcrLayout.legal, Bool.and_eq_true, decide_eq_true_eq] at h
  exact h.2

/-- A reading scan of the host, alone: its expansion, its start, its cycles and its end. -/
theorem run_readScan {n : Nat} {v : ScanWord} {rest : List HostTask} {s t : State} (hn : n ≠ 0) (hle : n ≤ 64)
    (h : AboutTo (.op (.dr n v true)) rest s)
    (e : cycles (Scan.cycles (.dr (scanBits n v) true)) (popped (.endScan :: rest) (scanStarted s)) = t)
    (ht : AboutTo .endScan rest t) :
    Host.Core.run Sys2Proof.core (n + 8) s = .next (runTask .endScan (popped rest t)) := by
  have expand : step s = .next (popped (.op (.scan [] n v true) :: rest) s) := step_of_expanded_op h (ts := [_]) rfl
  obtain ⟨hfaults, hrefused, halone, -⟩ := h
  have start : step (popped (.op (.scan [] n v true) :: rest) s) =
      .next (popped (scanTasks [] n v true ++ rest) (scanStarted s)) := by
    rw [step_of_task (s := popped (.op (.scan [] n v true) :: rest) s) (rest := rest) ⟨hfaults, hrefused, halone, rfl⟩, runTask,
      runOp_scan_of_le hle]
    rfl
  have htasks : scanTasks [] n v true ++ rest = (scanCycles [] n v true).map .cycle ++ .endScan :: rest := by
    rw [scanTasks, if_pos rfl, List.append_assoc]
    rfl
  have hcount : (scanCycles [] n v true).length = n + 5 := by
    rw [scanHasItsLength, if_neg hn, List.length_nil, Nat.zero_add]
  have shift : Host.Core.run Sys2Proof.core (n + 5) (popped (scanTasks [] n v true ++ rest) (scanStarted s)) =
      .next t := by
    rw [← hcount, ← e]
    refine stepsPerformTheCyclesInOrder _ _ (.endScan :: rest) (unmarked_iff.mpr ⟨hfaults, hrefused⟩) halone htasks ?_
    exact (congrArg State.unmarked e).trans (unmarked_of_task ht)
  calc Host.Core.run Sys2Proof.core (n + 8) s
      = Host.Core.run Sys2Proof.core (n + 5 + 1) (popped (scanTasks [] n v true ++ rest) (scanStarted s)) :=
        (core_run_succ expand).trans (core_run_succ start)
    _ = Host.Core.run Sys2Proof.core 1 t := core_run_add shift
    _ = .next (runTask .endScan (popped rest t)) := core_run_succ (step_of_task ht)

/-- Only the host moves, from Run-Test/Idle with the Control register selected, in a state without a mark; the parameters and the CPU are
`cfg` and `cpu`. -/
structure ControlSelected (cfg : Config) (cpu : Cpu) (s : State) : Prop where
  unmarked : s.unmarked = true
  alone : s.agenda = []
  idle : s.tapState = .rti
  selected : decodeIr s.cfg.codes s.tapSel s.ir = .ok .etapControl
  cfg_eq : s.cfg = cfg
  cpu_eq : s.cpu = cpu

/-- `r` is a read of the whole Control register that shows PrAcc = 0. -/
def ReadsNoPrAcc (cfg : Config) (r : List Bool) : Prop :=
  r.length = cfg.ecrLen ∧ r.getD cfg.ecrLayout.prAcc true = false

namespace ControlSelected

variable {cfg : Config} {cpu : Cpu} {s : State}

theorem aboutTo (h : ControlSelected cfg cpu s) {task : HostTask} {rest : List HostTask}
    (hs : s.host.todo = task :: rest) : AboutTo task rest s := by
  obtain ⟨hf, hr⟩ := unmarked_iff.mp h.unmarked
  exact ⟨hf, hr, h.alone, hs⟩

theorem startScan (h : ControlSelected cfg cpu s) (todo : List HostTask) :
    ControlSelected cfg cpu (popped todo (scanStarted s)) :=
  ⟨unmarked_iff.mpr (unmarked_iff.mp h.unmarked), h.alone, h.idle, h.selected, h.cfg_eq, h.cpu_eq⟩

theorem endScan (h : ControlSelected cfg cpu s) {rest : List HostTask} :
    ControlSelected cfg cpu (runTask .endScan (popped rest s)) := by
  rw [runTask_endScan]
  exact ⟨unmarked_iff.mpr (unmarked_iff.mp h.unmarked), h.alone, h.idle, h.selected, h.cfg_eq, h.cpu_eq⟩

variable (hl : cfg.ecrLayout.legal cfg.ecrLen = true) {rest : List HostTask}
include hl

/-- The cycles of the poll's scan gather the Control value and leave the CPU (42 R254). -/
theorem cycles_pollScan (h : ControlSelected cfg cpu s) (hrx : s.host.rx = []) :
    ∃ t bits, cycles (Scan.cycles (.dr (scanBits cfg.ecrLen (pollWord cfg.ecrLayout)) true)) s = t ∧
      ControlSelected cfg cpu t ∧ t.host = { s.host with rx := bits } ∧ bits.length = cfg.ecrLen ∧
      bits.getD cfg.ecrLayout.prAcc false = cpu.pending.isSome := by
  obtain ⟨hu, halone, hq, hi, rfl, rfl⟩ := h
  obtain ⟨bits, hlen, hprAcc, e⟩ := cycles_controlScan hu hq true hi hl (pollWord_handshake hl)
  refine ⟨_, bits, e, ⟨hu, halone, rfl, hi, rfl, ecrApply_cpu_of_prAcc (pollWord_prAcc hl)⟩, ?_, hlen, hprAcc⟩
  simp [hrx]

/-- The scan of a poll, from its operation to the end of the scan. -/
theorem run_pollScan (h : ControlSelected cfg cpu s) (hs : s.host.todo = .op (pollScan cfg) :: rest) :
    ∃ t bits, Host.Core.run Sys2Proof.core (cfg.ecrLen + 8) s = .next t ∧ ControlSelected cfg cpu t ∧
      t.host.todo = rest ∧ t.host.result = bits ∧ t.host.results = s.host.results ++ [bits] ∧
      bits.length = cfg.ecrLen ∧ bits.getD cfg.ecrLayout.prAcc false = cpu.pending.isSome := by
  have hprAcc : cfg.ecrLayout.prAcc < cfg.ecrLen := (position_lt_of_legal hl (by simp [EcrLayout.positions])).1
  obtain ⟨t, bits, e, ht, hhost, hlen, hbit⟩ := (h.startScan (.endScan :: rest)).cycles_pollScan hl rfl
  have hend : AboutTo .endScan rest t := ht.aboutTo (by rw [hhost]; rfl)
  refine ⟨runTask .endScan (popped rest t), bits, ?_, ht.endScan, ?_, ?_, ?_, hlen, hbit⟩
  · exact run_readScan (by omega) (scanLength_le_of_legal hl) (h.aboutTo hs) e hend
  all_goals rw [runTask_endScan]
  · rfl
  · exact congrArg Session.rx hhost
  · exact congrArg (fun host => host.results ++ [host.rx]) hhost

/-- One round of the loop: the read shows no access, and the head comes again. -/
theorem run_poll (h : ControlSelected cfg cpu s) (hp : cpu.pending = none) {i : Nat} (hi : i < cfg.pollMax)
    (hs : s.host.todo = .poll i :: rest) :
    ∃ t r, Host.Core.run Sys2Proof.core (cfg.ecrLen + 10) s = .next t ∧ ControlSelected cfg cpu t ∧
      t.host.todo = .poll (i + 1) :: rest ∧ t.host.results = s.host.results ++ [r] ∧ ReadsNoPrAcc cfg r := by
  have hprAcc : cfg.ecrLayout.prAcc < cfg.ecrLen := (position_lt_of_legal hl (by simp [EcrLayout.positions])).1
  obtain rfl := h.cfg_eq
  let s1 := popped (.op (pollScan s.cfg) :: .pollCheck (i + 1) :: rest) s
  have e1 : step s = .next s1 := step_poll_of_lt (h.aboutTo hs) hi
  have h1 : ControlSelected s.cfg cpu s1 := { h with }
  obtain ⟨t, r, e2, h2, htodo, hresult, hresults, hlen, hbit⟩ := h1.run_pollScan hl rfl
  have hclear : r.getD s.cfg.ecrLayout.prAcc false = false := by rw [hbit, hp]; rfl
  have e3 : step t = .next (popped (.poll (i + 1) :: rest) t) :=
    step_pollCheck_clear (h2.aboutTo htodo) (by rw [hresult, h2.cfg_eq]; exact hclear)
  refine ⟨popped (.poll (i + 1) :: rest) t, r, ?_, { h2 with }, rfl, hresults, hlen, ?_⟩
  · exact (core_run_succ e1).trans ((core_run_add (n := 1) e2).trans (core_run_succ e3))
  · rw [← hlen] at hprAcc
    rwa [List.getD_eq_getElem _ _ hprAcc] at hclear ⊢

/-- The rounds that are left, by induction on their number. -/
theorem run_polls (h : ControlSelected cfg cpu s) (hp : cpu.pending = none) {i k : Nat} (hk : i + k = cfg.pollMax)
    (hs : s.host.todo = .poll i :: rest) :
    ∃ t reads, Host.Core.run Sys2Proof.core ((cfg.ecrLen + 10) * k) s = .next t ∧ ControlSelected cfg cpu t ∧
      t.host.todo = .poll cfg.pollMax :: rest ∧ t.host.results = s.host.results ++ reads ∧ reads.length = k ∧
      ∀ r ∈ reads, ReadsNoPrAcc cfg r := by
  induction k generalizing s i with
  | zero => exact ⟨s, [], rfl, h, by rw [hs, ← hk]; rfl, by simp, rfl, nofun⟩
  | succ k ih =>
    obtain ⟨t, r, e, ht, htodo, hresults, hr⟩ := h.run_poll hl hp (by omega) hs
    obtain ⟨u, reads, e', hu, hutodo, huresults, hlen, hreads⟩ := ih ht (by omega) htodo
    refine ⟨u, r :: reads, ?_, hu, hutodo, by rw [huresults, hresults, List.append_assoc]; rfl, by rw [List.length_cons, hlen],
      List.forall_mem_cons.mpr ⟨hr, hreads⟩⟩
    rw [Nat.mul_succ, Nat.add_comm, core_run_add e, e']

end ControlSelected

/-- Settles O49: a bound kept by every turn, the rounds of a loop that only the host's turns move, and the loop's steps. -/
theorem prAccLoopIsBounded : Obligations.PrAccLoopIsBounded := by
  refine ⟨fun s t n => results_le_of_poll_run, fun s h hq hi hl hp => ?_, fun s rest i =>
    ⟨fun h hi => ⟨_, step_poll_last h hi, rfl, rfl, rfl, rfl⟩, step_poll_of_lt, step_pollCheck_set,
      step_pollCheck_clear⟩⟩
  obtain ⟨hf, hr, halone, hs⟩ := h
  have hsel : ControlSelected s.cfg s.cpu s := ⟨unmarked_iff.mpr ⟨hf, hr⟩, halone, hq, hi, rfl, rfl⟩
  obtain ⟨t, reads, e, ht, htodo, hresults, hlen, hreads⟩ := hsel.run_polls hl hp (Nat.zero_add _) hs
  have hlast : step t = .next ((popped [] t).fatal .prAccNotSet) :=
    step_poll_last (ht.aboutTo htodo) (congrArg Config.pollMax ht.cfg_eq.symm)
  refine ⟨_, (popped [] t).fatal .prAccNotSet, le_rfl, ?_, rfl, ht.cpu_eq, ht.idle, reads, hresults, hlen, hreads⟩
  exact (core_run_add e).trans (core_run_succ hlast)

end Sys2Proof.Machine
end

section
/-! SUPPORT. The CRC of a byte (44_crc16.md R341, R342, R344): the register's shifts as nibble steps, and what the register tells apart. -/

namespace Sys2Proof.Machine

/-! ## The table -/

theorem crcShifts_add (m n : Nat) (r : Half) : crcShifts (m + n) r = crcShifts n (crcShifts m r) := by
  induction m generalizing r with
  | zero => rw [Nat.zero_add]; rfl
  | succ m ih => rw [Nat.add_right_comm]; exact ih _

theorem crcShift_of_lt {r : Half} (h : r.toNat < 2 ^ 15) : crcShift r = r <<< 1 :=
  if_neg (by simp [BitVec.getLsbD, Nat.testBit_lt_two_pow h])

/-- The generator is not added while the bits shifted out are 0. -/
theorem crcShifts_of_lt {n : Nat} {r : Half} (h : r.toNat * 2 ^ n < 2 ^ 16) : crcShifts n r = r <<< n := by
  induction n generalizing r with
  | zero => rw [BitVec.shiftLeft_zero]; rfl
  | succ n ih =>
    have hpos : 0 < 2 ^ n := Nat.two_pow_pos n
    have hdouble : r.toNat * 2 * 2 ^ n < 2 ^ 16 := by rwa [Nat.mul_assoc, ← Nat.pow_succ']
    have hfit : r.toNat * 2 < 2 ^ 16 := lt_of_le_of_lt (Nat.le_mul_of_pos_right _ hpos) hdouble
    have hnext : (r <<< 1).toNat = r.toNat * 2 := by
      rw [BitVec.toNat_shiftLeft, Nat.shiftLeft_eq, pow_one, Nat.mod_eq_of_lt hfit]
    rw [crcShifts, crcShift_of_lt (by omega), ih (by rwa [hnext]), ← BitVec.shiftLeft_add, Nat.add_comm]

/-- Each entry of the table is the CRC of its nibble from a zero register (44 R342). -/
theorem crcTable_entry (n : BitVec 4) : crcTable.getD n.toNat 0 = crcShifts 4 (n.setWidth 16 <<< 12) := by
  revert n
  decide

/-- The register with a nibble added at its top: its low 12 bits, and the nibble that the table looks up. -/
theorem xor_topNibble (r : Half) (n : BitVec 4) : r ^^^ (n.setWidth 16 <<< 12) =
    (r.extractLsb' 0 12).setWidth 16 ^^^ ((r.extractLsb' 12 4 ^^^ n).setWidth 16 <<< 12) := by
  apply BitVec.eq_of_getLsbD_eq
  intro i hi
  obtain hlow | ⟨j, rfl⟩ := (Nat.lt_or_ge i 12).imp_right Nat.exists_eq_add_of_le
  · simp [hlow, hi]
  · have hj : j < 4 := by omega
    simp [hi, hj]

/-- A byte at the register's top is its high nibble there and its low nibble below. -/
theorem byte_eq_nibbles (b : Byte) : b.setWidth 16 <<< 8 =
    ((b.extractLsb' 4 4).setWidth 16 <<< 12) ^^^ ((b.extractLsb' 0 4).setWidth 16 <<< 8) := by
  apply BitVec.eq_of_getLsbD_eq
  intro i hi
  obtain hlow | ⟨j, rfl⟩ := (Nat.lt_or_ge i 12).imp_right Nat.exists_eq_add_of_le
  · have hi4 : i - 8 < 4 := by omega
    simp [hlow, hi4]
  · have hj : j < 4 := by omega
    have hindex : 12 + j - 8 = 4 + j := by omega
    have hge : 8 ≤ 12 + j := by omega
    simp [hi, hj, hindex, hge]

/-- The low 12 bits of a register are not shifted out in four shifts. -/
theorem crcShifts_low (r : Half) : crcShifts 4 ((r.extractLsb' 0 12).setWidth 16) = r <<< 4 := by
  have hlt : ((r.extractLsb' 0 12).setWidth 16).toNat * 2 ^ 4 < 2 ^ 16 := by
    rw [BitVec.toNat_setWidth_of_le (by decide)]
    have := (r.extractLsb' 0 12).isLt
    omega
  rw [crcShifts_of_lt hlt]
  apply BitVec.eq_of_getLsbD_eq
  intro i hi
  have hi12 : i - 4 < 12 := by omega
  have hi16 : i - 4 < 16 := by omega
  simp [hi12, hi16]

/-- The low nibble of a byte moves up to the register's top. -/
theorem crcShifts_lowNibble (n : BitVec 4) : crcShifts 4 (n.setWidth 16 <<< 8) = n.setWidth 16 <<< 12 := by
  have hlt : (n.setWidth 16 <<< 8).toNat * 2 ^ 4 < 2 ^ 16 := by bv_omega
  rw [crcShifts_of_lt hlt, ← BitVec.shiftLeft_add]

/-- One step by the table is four shifts with the nibble added at the register's top. -/
theorem crcNibble_eq_crcShifts (r : Half) (n : BitVec 4) :
    crcNibble r n = crcShifts 4 (r ^^^ (n.setWidth 16 <<< 12)) := by
  rw [crcNibble, crcTable_entry, xor_topNibble, crcShifts_xor, crcShifts_low]

/-- Four shifts take in the high nibble of the byte and bring the low one to the top, where four more take it in. -/
theorem crcByteByTable_eq_crcByte (r : Half) (b : Byte) : crcByteByTable r b = crcByte r b := by
  rw [crcByteByTable, crcNibble_eq_crcShifts, crcNibble_eq_crcShifts, crcByte, byte_eq_nibbles, ← BitVec.xor_assoc,
    crcShifts_add 4 4, crcShifts_xor 4 (r ^^^ _), crcShifts_lowNibble]

/-- Settles O45. -/
theorem crcTableFormEqualsBitwise : Obligations.CrcTableFormEqualsBitwise :=
  ⟨crcTable_entry, crcByteByTable_eq_crcByte⟩

/-! ## A changed byte -/

theorem crcByte_register_injective {r r' : Half} {b : Byte} (h : crcByte r b = crcByte r' b) : r = r' :=
  (BitVec.xor_left_inj _).mp (crcShifts_injective h)

/-- Two bytes that leave the same register value from the same one are equal. -/
theorem crcByte_byte_injective {r : Half} {x y : Byte} (h : crcByte r x = crcByte r y) : x = y := by
  have htop : x.setWidth 16 <<< 8 = y.setWidth 16 <<< 8 := (BitVec.xor_right_inj _).mp (crcShifts_injective h)
  bv_omega

theorem crc16_append (seed : Half) (before after : List Byte) :
    crc16 seed (before ++ after) = crc16 (crc16 seed before) after := List.foldl_append

theorem crc16_cons (seed : Half) (b : Byte) (bytes : List Byte) :
    crc16 seed (b :: bytes) = crc16 (crcByte seed b) bytes := rfl

/-- Bytes fed to two different registers leave two different registers. -/
theorem crc16_seed_injective {bytes : List Byte} {r r' : Half} (h : crc16 r bytes = crc16 r' bytes) : r = r' := by
  induction bytes generalizing r r' with
  | nil => exact h
  | cons b bytes ih => exact crcByte_register_injective (ih h)

/-- Settles O46: the registers differ after the byte, and the bytes after it keep them apart. -/
theorem crcDetectsOneChangedByte : Obligations.CrcDetectsOneChangedByte := by
  intro seed before after x y hxy h
  rw [crc16_append, crc16_append, crc16_cons, crc16_cons] at h
  exact hxy (crcByte_byte_injective (crc16_seed_injective h))

end Sys2Proof.Machine
end

section
/-! SUPPORT. The bootloader frame (44_crc16.md R350 to R352): what the decoder reads of the escape of each byte, of a body, and of a whole frame. -/

namespace Sys2Proof.Machine

theorem unescape_dle (x : Byte) (more : List Byte) :
    unescape (dle :: x :: more) = (unescape more).map (x :: ·) := if_pos rfl

/-- The first unescaped EOT ends the body, whatever follows. -/
theorem unescape_eot (junk : List Byte) : unescape (eot :: junk) = some [] := by
  cases junk <;> rfl

theorem unescape_plain {x : Byte} (h : isSpecial x = false) (more : List Byte) :
    unescape (x :: more) = (unescape more).map (x :: ·) := by
  simp only [isSpecial, Bool.or_eq_false_iff, beq_eq_false_iff_ne] at h
  obtain ⟨⟨hsoh, heot⟩, hdle⟩ := h
  cases more with
  | nil => simp [unescape, hdle, heot]
  | cons y more => simp [unescape, hdle, heot, hsoh]

theorem unescape_escapeByte (x : Byte) (more : List Byte) :
    unescape (escapeByte x ++ more) = (unescape more).map (x :: ·) := by
  unfold escapeByte
  cases h : isSpecial x with
  | true => exact unescape_dle x more
  | false => exact unescape_plain h more

theorem unescape_escapeBody (body more : List Byte) :
    unescape (escapeBody body ++ more) = (unescape more).map (body ++ ·) := by
  induction body with
  | nil => exact Option.map_id'.symm
  | cons x body ih =>
    have hcons : escapeBody (x :: body) = escapeByte x ++ escapeBody body := List.flatMap_cons
    rw [hcons, List.append_assoc, unescape_escapeByte, ih, Option.map_map]
    rfl

/-- The two CRC bytes that end a body are read back as the CRC. -/
theorem openBody_crcBytes (cmd : Byte) (data : List Byte) (c : Half) :
    openBody (cmd :: (data ++ crcBytes c)) = some (cmd, data, c) := by
  have hlen : (data ++ crcBytes c).length - 2 = data.length := by simp [crcBytes]
  have hc : c.extractLsb' 8 8 ++ c.extractLsb' 0 8 = c :=
    (BitVec.extractLsb'_append_extractLsb'_eq_extractLsb' rfl).trans BitVec.extractLsb'_eq_self
  have hshort : ¬ (data ++ crcBytes c).length < 2 := by simp [crcBytes]
  simp only [openBody, hlen, if_neg hshort]
  simp [crcBytes, hc]

/-- What is read of a frame is what it was made of, whatever follows it. -/
theorem frameParts_frameOf (cmd : Byte) (data : List Byte) (c : Half) (junk : List Byte) :
    frameParts (frameOf cmd data c ++ junk) = some (cmd, data, c) := by
  have hframe : frameOf cmd data c ++ junk = soh :: (escapeBody (cmd :: (data ++ crcBytes c)) ++ eot :: junk) := by
    simp [frameOf]
  have hbody : unescape (escapeBody (cmd :: (data ++ crcBytes c)) ++ eot :: junk) =
      some (cmd :: (data ++ crcBytes c)) := by
    rw [unescape_escapeBody, unescape_eot, Option.map_some, List.append_nil]
  rw [hframe, frameParts, if_pos rfl, hbody, Option.bind_some, openBody_crcBytes]

theorem decodeFrame_of_parts {seed : Half} {bytes data : List Byte} {cmd : Byte} {c : Half}
    (h : frameParts bytes = some (cmd, data, c)) :
    decodeFrame seed bytes = if crc16 seed (cmd :: data) = c then some (cmd, data) else none := by
  rw [decodeFrame, h]

/-- Settles O47. -/
theorem frameRoundTrip : Obligations.FrameRoundTrip := by
  intro seed cmd data junk
  rw [encodeFrame, decodeFrame_of_parts (frameParts_frameOf cmd data _ junk), if_pos rfl]

end Sys2Proof.Machine
end

section
/-! SUPPORT. The host's use of the CRC unit (44_crc16.md R340, R343, R350, R351): the steps of an operation that runs a `crc16` and does one task
with its value, and what that task leaves. -/

namespace Sys2Proof.Machine

/-! ## A row of the host's tasks -/

/-- A task that puts nothing on the host's list and lists no turn, and leaves no mark. -/
def PlainTask (t : HostTask) : Prop :=
  ∀ s : State, (runTask t s).faults = s.faults ∧ (runTask t s).refused = s.refused ∧
    (runTask t s).agenda = s.agenda ∧ (runTask t s).host.todo = s.host.todo

/-- In a state with no turn listed and no mark, a step is a turn of the host. -/
theorem step_hostTurn {s : State} (hs : s.unmarked = true) (ha : s.agenda = []) : step s = .next (hostTurn s) := by
  obtain ⟨hf, hr⟩ := unmarked_iff.mp hs
  rw [step_unmarked hf hr, nextTurn, ha]

/-- The host's steps over plain tasks are as many turns of the host. -/
theorem run_plainTasks {ts rest : List HostTask} (hts : ∀ t ∈ ts, PlainTask t) {s : State} (hs : s.unmarked = true)
    (ha : s.agenda = []) (htodo : s.host.todo = ts ++ rest) :
    Host.Core.run Sys2Proof.core ts.length s = .next (hostTurn^[ts.length] s) := by
  induction ts generalizing s with
  | nil => rfl
  | cons t ts ih =>
    obtain ⟨hplain, hplains⟩ := List.forall_mem_cons.mp hts
    obtain ⟨hfaults, hrefused, hagenda, hlist⟩ := hplain (popped (ts ++ rest) s)
    have hturn : hostTurn s = runTask t (popped (ts ++ rest) s) := by
      rw [hostTurn, htodo]
      rfl
    have hunmarked : (hostTurn s).unmarked = true := by rw [hturn, State.unmarked, hfaults, hrefused]; exact hs
    rw [List.length_cons, core_run_succ (step_hostTurn hs ha), Function.iterate_succ_apply]
    exact ih hplains hunmarked (by rw [hturn, hagenda]; exact ha) (by rw [hturn, hlist]; rfl)

theorem crcTasks_plain (seed : Half) (bytes : List Byte) : ∀ t ∈ crcTasks seed bytes, PlainTask t := by
  intro t ht
  obtain rfl | hbyte := List.mem_cons.mp ht
  · exact fun _ => ⟨rfl, rfl, rfl, rfl⟩
  · obtain ⟨b, -, rfl⟩ := List.mem_map.mp hbyte
    exact fun _ => ⟨rfl, rfl, rfl, rfl⟩

/-- A `crc16` takes a step for its seed and one for each byte. -/
theorem run_crcTasks {seed : Half} {bytes : List Byte} {rest : List HostTask} {s : State} (hs : s.unmarked = true)
    (ha : s.agenda = []) (htodo : s.host.todo = crcTasks seed bytes ++ rest) :
    Host.Core.run Sys2Proof.core (bytes.length + 1) s = .next { popped rest s with crc := crc16 seed bytes } := by
  have hlen : (crcTasks seed bytes).length = bytes.length + 1 := by simp [crcTasks]
  rw [← hlen, run_plainTasks (crcTasks_plain seed bytes) hs ha htodo, hlen, crcTasks_turns seed bytes rest s htodo]
  rfl

theorem agenda_of_task {t : HostTask} {rest : List HostTask} {s : State} (h : AboutTo t rest s) : s.agenda = [] := by
  obtain ⟨-, -, hagenda, -⟩ := h
  exact hagenda

/-- An operation that expands to a `crc16` and one task with its value: a step to expand, the steps of the `crc16`, and the task's.
`u` is the state in which the operation puts its tasks on the list. -/
theorem run_crc_op {o : HostOp} {task : HostTask} {seed : Half} {bytes : List Byte} {rest : List HostTask} {s u : State}
    (h : AboutTo (.op o) rest s) (hop : runOp o (popped rest s) = u.push (crcTasks seed bytes ++ [task]))
    (hmarks : u.unmarked = s.unmarked) (hagenda : u.agenda = s.agenda) (hrest : u.host.todo = rest) :
    Host.Core.run Sys2Proof.core (bytes.length + 3) s = .next (runTask task { u with crc := crc16 seed bytes }) := by
  have hu : u.unmarked = true := hmarks.trans (unmarked_of_task h)
  have ha : u.agenda = [] := hagenda.trans (agenda_of_task h)
  have expand : step s = .next (popped (crcTasks seed bytes ++ task :: rest) u) := by
    rw [step_of_task h, runTask, hop, State.push, hrest, List.append_assoc]
    rfl
  have crc := run_crcTasks (s := popped (crcTasks seed bytes ++ task :: rest) u) hu ha rfl
  have last : step { popped (task :: rest) u with crc := crc16 seed bytes } =
      .next (runTask task { popped rest u with crc := crc16 seed bytes }) := by
    obtain ⟨hf, hr⟩ := unmarked_iff.mp hu
    exact step_of_task ⟨hf, hr, ha, rfl⟩
  have hpop : popped rest u = u := by rw [← hrest]; rfl
  rw [hpop] at last
  calc Host.Core.run Sys2Proof.core (bytes.length + 3) s
      = Host.Core.run Sys2Proof.core (bytes.length + 1 + 1) (popped (crcTasks seed bytes ++ task :: rest) u) :=
        core_run_succ expand
    _ = Host.Core.run Sys2Proof.core 1 { popped (task :: rest) u with crc := crc16 seed bytes } := core_run_add crc
    _ = .next (runTask task { u with crc := crc16 seed bytes }) := core_run_succ last

/-! ## Frames received -/

theorem runOp_receiveFrame_malformed {bytes : List Byte} (h : frameParts bytes = none) (needed : Bool) (s : State) :
    runOp (.receiveFrame bytes needed) s = s.newCommand.emptyReply needed := by
  rw [runOp, h]

theorem runOp_receiveFrame_of_parts {bytes data : List Byte} {cmd : Byte} {c : Half}
    (h : frameParts bytes = some (cmd, data, c)) (needed : Bool) (s : State) :
    runOp (.receiveFrame bytes needed) s =
      s.newCommand.push (crcTasks s.cfg.frameSeed (cmd :: data) ++ [.checkFrame cmd data c needed]) := by
  rw [runOp, h]

theorem runTask_checkFrame_crc (cmd : Byte) (data : List Byte) (c : Half) (needed : Bool) (s : State) :
    (runTask (.checkFrame cmd data c needed) s).crc = s.crc := by
  rw [runTask]
  split_ifs
  · exact State.frameReply_crc ..
  · exact State.emptyReply_crc ..

theorem runTask_checkFrame_good {cmd : Byte} {data : List Byte} {c : Half} {s : State} (h : s.crc = c) (needed : Bool) :
    runTask (.checkFrame cmd data c needed) s = s.frameReply cmd data := if_pos h

theorem runTask_checkFrame_bad {cmd : Byte} {data : List Byte} {c : Half} {s : State} (h : s.crc ≠ c) (needed : Bool) :
    runTask (.checkFrame cmd data c needed) s = s.emptyReply needed := if_neg h

/-- Settles O44: three single steps, two runs of a `crc16` whose last task keeps its value, and the two ends of a frame received. -/
theorem crcUnitOperations : Obligations.CrcUnitOperations := by
  intro s rest
  refine ⟨fun seed h => step_of_task h, fun b h => step_of_task h, fun h => ⟨_, step_of_task h, rfl, rfl⟩,
    fun seed bytes h => ?crc16, fun cmd data h => ?encode, fun bytes needed h =>
      ⟨fun hnone => ?malformed, fun cmd data c hparts => ?received⟩⟩
  case crc16 => exact run_crc_op h (u := popped rest s) rfl rfl rfl rfl
  case encode =>
    exact run_crc_op (bytes := cmd :: data) h (u := popped rest s) rfl rfl rfl rfl
  case malformed =>
    refine ⟨_, step_of_task h, ?_⟩
    rw [runTask, runOp_receiveFrame_malformed hnone]
    simp [popped]
  case received =>
    have hrun := run_crc_op (bytes := cmd :: data) h (u := (popped rest s).newCommand)
      (runOp_receiveFrame_of_parts hparts needed _) rfl rfl rfl
    refine ⟨_, hrun, runTask_checkFrame_crc .., ?_⟩
    rw [decodeFrame_of_parts hparts]
    by_cases hgood : crc16 s.cfg.frameSeed (cmd :: data) = c
    · rw [if_pos hgood, runTask_checkFrame_good hgood]
      exact ⟨fun _ => rfl, nofun⟩
    · rw [if_neg hgood, runTask_checkFrame_bad hgood]
      exact ⟨nofun, fun _ => by simp [popped]⟩

end Sys2Proof.Machine
end

section
/-! SUPPORT. The debug exception taken and left in a turn of the CPU (60_exceptions.md R380, R382, R383, 42_etap.md R259). -/

namespace Sys2Proof.Machine

section

variable {s : State}

theorem cpuTurn_takeDebug (hmode : s.cpu.mode = .run) (hbrk : s.ecr.ejtagBrk = true) :
    cpuTurn .takeDebug s = debugExceptionEntry s :=
  if_pos ⟨hmode, hbrk⟩

theorem cpuTurn_leaveDebug (hmode : s.cpu.mode = .debug) (hpend : s.cpu.pending = none) :
    cpuTurn .leaveDebug s = leaveDebug s :=
  if_pos ⟨hmode, hpend⟩

end

/-- Settles O42: each of the two turns is enabled, so it is the entry or the exit itself. -/
theorem cpuTakesAndLeavesTheDebugException : Obligations.CpuTakesAndLeavesTheDebugException := by
  refine fun s rest => ⟨fun hturn hmode hbrk => ?take, fun hturn hmode hpend => ?leave⟩
  case take =>
    rw [step_of_cpu hturn, cpuTurn_takeDebug (s := { s with agenda := rest }) hmode hbrk]
    rfl
  case leave =>
    rw [step_of_cpu hturn, cpuTurn_leaveDebug (s := { s with agenda := rest }) hmode hpend]
    rfl

end Sys2Proof.Machine
end

section
/-! SUPPORT. The reset events (70_reset_and_hazards.md): a cycle in Test-Logic-Reset (R401), and the values of a power-on (R400, R402). -/

namespace Sys2Proof.Machine

/-! ## Test-Logic-Reset -/

/-- Test-Logic-Reset performs the TAP reset actions whatever TDI is (70 R401) and shows no bit (40 R150). -/
theorem tapAction_tlr (tdi : Bool) {s : State} (h : s.tapState = .tlr) :
    tapAction tdi s = .next (tlrActions s) ∧ s.tdo = none := by
  simp [tapAction, State.tdo, h]

/-- The reset actions raise no mark and clear none. -/
theorem tlrActions_unmarked (s : State) : (tlrActions s).unmarked = s.unmarked := rfl

theorem tlr_next (tms : Bool) : TapState.tlr.next tms = if tms then .tlr else .rti := by
  cases tms <;> rfl

/-- Settles O29: TDO shows no bit there, so a reading cycle spends a draw on the bit it records. -/
theorem testLogicResetActions : Obligations.TestLogicResetActions := by
  intro s c rest h hq
  obtain ⟨hact, htdo⟩ := tapAction_tlr c.tdi (s := popped rest s) hq
  have hu : (tlrActions (popped rest s)).unmarked = true := (tlrActions_unmarked _).trans (unmarked_of_aboutTo h)
  obtain ⟨b, k, -, e⟩ := cycle_of_no_tdo hact hu htdo
  have hnext : (popped rest s).tapState.next c.tms = if c.tms then .tlr else .rti :=
    (congrArg (TapState.next · c.tms) hq).trans (tlr_next c.tms)
  refine ⟨freeTap s.draws, b, k, ?_⟩
  rw [step_of_aboutTo h, e, hnext]
  rfl

/-! ## Power-on -/

theorem step_of_powerOn {s : State} {rest : List Turn} (h : TurnOf .powerOn rest s) :
    step s = .next (powerOn { s with agenda := rest }) := by
  obtain ⟨hfaults, hrefused, hagenda⟩ := h
  simp [step_unmarked hfaults hrefused, nextTurn, hagenda, runTurn]

/-- What the CPU shows of itself at power-on (70 R402): no access, no word delivered, and none posted yet. -/
structure CpuAtPowerOn (c : Cpu) : Prop where
  mode : c.mode = .run
  pending : c.pending = none
  delivered : c.delivered = []
  posted : c.posted = false

theorem reset_cpuAtPowerOn : CpuAtPowerOn State.reset.cpu := ⟨rfl, rfl, rfl, rfl⟩

theorem powerOn_cpuAtPowerOn (s : State) : CpuAtPowerOn (powerOn s).cpu := ⟨rfl, rfl, rfl, rfl⟩

section

variable {s : State} (h : CpuAtPowerOn s.cpu)
include h

theorem CpuAtPowerOn.prAcc : s.prAcc = false := by
  rw [State.prAcc, h.pending]
  rfl

theorem CpuAtPowerOn.prnw (free : Bool) : s.prnw free = false := by
  simp only [State.prnw, h.pending, h.posted, Bool.false_and]

theorem CpuAtPowerOn.dm : s.dm = false := by
  rw [State.dm, h.mode]
  rfl

theorem CpuAtPowerOn.fdPending : s.fdPending = false := by
  rw [State.fdPending, h.pending]

end

/-- Settles O60: the stored values stand in `State.reset`, which a power-on takes over, and the views are those of the CPU. -/
theorem resetLeavesThePowerOnValues : Obligations.ResetLeavesThePowerOnValues := by
  refine ⟨?atReset, fun s rest hturn => ⟨_, step_of_powerOn hturn, ?afterTurn⟩⟩
  case atReset =>
    have hcpu := reset_cpuAtPowerOn
    exact ⟨rfl, rfl, rfl, rfl, rfl, rfl, rfl, rfl, rfl, rfl, rfl, hcpu.prAcc, hcpu.prnw, hcpu.dm, hcpu.fdPending, rfl,
      rfl, hcpu.mode, hcpu.pending, hcpu.delivered, rfl, rfl, rfl⟩
  case afterTurn =>
    have hcpu := powerOn_cpuAtPowerOn { s with agenda := rest }
    exact ⟨rfl, rfl, rfl, rfl, rfl, rfl, rfl, rfl, hcpu.prAcc, hcpu.prnw, hcpu.dm, hcpu.fdPending, rfl, rfl, hcpu.mode,
      hcpu.pending, hcpu.delivered, rfl, rfl, rfl, rfl, rfl, rfl, rfl⟩

end Sys2Proof.Machine
end
